-- ==== Sys2Proof/Word.lean ====
section
/-! DEFINITION. The words of the brick-lamp CORE (spec/00_scope.md R10: every value is an unsigned
number, bit 0 its least significant bit). Only names for widths stand here; arithmetic stands in
Machine/Operands.lean. -/

namespace Sys2Proof

/-- A command word: one 16-bit unit presented in parallel (R50, R70). -/
abbrev CmdWord := BitVec 16

/-- A 10-bit value: RawSample, TrackedValue, GammaCorrected, PowerCapped, the result port (R71, R76). -/
abbrev Word10 := BitVec 10

/-- An 8-bit duty, application-level or inverted (R25, R53). -/
abbrev Duty := BitVec 8

/-- DitherPhase, a 2-bit counter (R22). -/
abbrev Phase := BitVec 2

/-- The index of a register in the register space, 3 bits (R35). -/
abbrev RegIndex := BitVec 3

end Sys2Proof
end

