-- ==== Sys2Proof/Config.lean ====
section
/-! DEFINITION. What one instance of the block fixes (spec/00_scope.md R6 to R9) and the free values
the spec leaves to the environment. A constant with no body is a free value: no proof can learn it. -/

namespace Sys2Proof

/-- `ADC_MAX`: the ADC input range maximum, 1023 for 10 bits (R6). -/
def Config.adcMax : Nat := 1023

/-- `PWM_MAX`: the PWM output range maximum, 255 for 8 bits (R6). -/
def Config.pwmMax : Nat := 255

/-- `DITHER_FRAMES`: the length of the dither cycle (R8). -/
def Config.ditherFrames : Nat := 4

/-- A power cap in percent: a natural number in 0 to 100 (R7). A cap above 100 has no value of this
type: the configuration is refused (`Machine.admitCap`). -/
abbrev Config.Cap := Fin 101

/-- `PERCENT_CAP` of the block that `State.reset` describes (R7, R9): left open by the spec, so a free
value. State carries the cap (`State.percentCap`), so that a statement over all states covers every cap.
DESIGN CHOICE (log 1). -/
opaque Config.percentCap : Config.Cap

/-- `DUTY_RESET` at the power-up that `State.reset` describes (R26): any 8-bit value. (log 2) -/
opaque Config.dutyReset : Duty

/-- `TCR_OTHER_RESET` at the power-up that `State.reset` describes (R29): any 6-bit value. (log 2) -/
opaque Config.tcrOtherReset : BitVec 6

/-- `draw ADC` (R14, R36): the sample of the `n`th conversion, where the input list of State names none.
DESIGN CHOICE (log 3). -/
opaque Config.adcSample : Nat → Word10

/-- `env ACQ_OK` (R14, R162): the `n`th answer to `INIT`, where the input list of State names none.
DESIGN CHOICE (log 4). -/
opaque Config.acqOk : Nat → Bool

/-- The host's global interrupt enable at power-up (R38): outside the CORE, not the CORE's to reset
(R43). DESIGN CHOICE (log 8). -/
opaque Config.hostIntEnable : Bool

end Sys2Proof
end

