-- ==== Sys2Proof/Syntax.lean ====
section
/-! DEFINITION. The nine operations, one constructor per row of spec/opcode_table.json
(spec/30_encoding.md R73). An operand is the field the row gives it (R72). -/

namespace Sys2Proof

/-- One operation of the block (R73). -/
inductive Instr where
  /-- `INIT` (R161): one-time configuration of the PWM channel. -/
  | init
  /-- `MEASURE` (R101): take one raw sample. -/
  | measure
  /-- `HYST raw10` (R104): update the tracked value with one sample. -/
  | hyst (raw : Word10)
  /-- `GAMMA v10` (R121): gamma-correct one value. -/
  | gamma (v : Word10)
  /-- `SCALE v10` (R125): cap the power of one value. -/
  | scale (v : Word10)
  /-- `DITHER v10` (R144): produce the duty for one frame and advance the phase. -/
  | dither (v : Word10)
  /-- `SETDUTY d8` (R166): program one duty. -/
  | setduty (d : Duty)
  /-- `RDREG i3` (R170): read one register of the register space. -/
  | rdreg (i : RegIndex)
  /-- `ITER` (R190): one iteration of the control loop. -/
  | iter
  deriving DecidableEq, Repr

/-- The pseudo-operations of R79, each an alias for exactly one command word. -/
inductive Pseudo where
  | rdTracked
  | rdPhase
  | rdDuty
  | rdTcr
  | rdStatus
  | off
  deriving DecidableEq, Repr

end Sys2Proof
end

