-- ==== Sys2Proof/WellFormed.lean ====
section
/-! DEFINITION. Which operations have a command word: the operand's width is in its type, so the one
check left is the register index of `RDREG` (spec/30_encoding.md R73, extra condition `ARG[2:0] <= 4`). -/

namespace Sys2Proof

/-- The operation has a legal word (R73, R74). -/
def Instr.wellFormed : Instr → Bool
  | .rdreg i => decide (i.toNat ≤ 4)
  | .init | .measure | .hyst _ | .gamma _ | .scale _ | .dither _ | .setduty _ | .iter => true

end Sys2Proof
end

