-- ==== Sys2Proof/Decode.lean ====
section
/-! DEFINITION. Decoding a command word (spec/30_encoding.md R70 to R75, R80), total on 16-bit words
and refusing by name, and after it the encoder. -/

namespace Sys2Proof

/-- Why a word selects no operation: one name per line of R74. All of them raise `ILLEGAL_CMD`. -/
inductive Illegal where
  /-- `RSV != 00`. -/
  | reservedBits
  /-- `OPC` is 0x0 or 0xA to 0xF. -/
  | opcode
  /-- `INIT`, `MEASURE` or `ITER` with `ARG != 0`. -/
  | operandNotZero
  /-- `SETDUTY` with `ARG[9:8] != 00`. -/
  | dutyAbove255
  /-- `RDREG` with `ARG[9:3] != 0`, or with `ARG[2:0]` in 5 to 7. -/
  | registerIndex
  deriving DecidableEq, Repr

/-- `OPC`, bits 15:12 (R70). -/
def opcOf (w : CmdWord) : BitVec 4 := w.extractLsb' 12 4

/-- `RSV`, bits 11:10 (R70). -/
def rsvOf (w : CmdWord) : BitVec 2 := w.extractLsb' 10 2

/-- `ARG`, bits 9:0 (R70). -/
def argOf (w : CmdWord) : Word10 := w.extractLsb' 0 10

/-- An operation without an operand: its `ARG` must be 0 (R70). -/
def bare (arg : Word10) (i : Instr) : Except Illegal Instr :=
  if arg = 0 then .ok i else .error .operandNotZero

/-- `SETDUTY`: `d8 = ARG[7:0]` with `ARG[9:8] = 00` (R72). -/
def decodeSetduty (arg : Word10) : Except Illegal Instr :=
  if arg.extractLsb' 8 2 = 0 then .ok (.setduty (arg.extractLsb' 0 8)) else .error .dutyAbove255

/-- `RDREG`: `i3 = ARG[2:0]`, at most 4, with `ARG[9:3] = 0` (R72, R73). -/
def decodeRdreg (arg : Word10) : Except Illegal Instr :=
  if arg.extractLsb' 3 7 = 0 ∧ (arg.extractLsb' 0 3).toNat ≤ 4 then .ok (.rdreg (arg.extractLsb' 0 3))
  else .error .registerIndex

/-- The function of R80, in its order: `RSV` first, then the operation code. -/
def decodeNamed (w : CmdWord) : Except Illegal Instr :=
  if rsvOf w ≠ 0 then .error .reservedBits
  else if opcOf w = 0x1#4 then bare (argOf w) .init
  else if opcOf w = 0x2#4 then bare (argOf w) .measure
  else if opcOf w = 0x3#4 then .ok (.hyst (argOf w))
  else if opcOf w = 0x4#4 then .ok (.gamma (argOf w))
  else if opcOf w = 0x5#4 then .ok (.scale (argOf w))
  else if opcOf w = 0x6#4 then .ok (.dither (argOf w))
  else if opcOf w = 0x7#4 then decodeSetduty (argOf w)
  else if opcOf w = 0x8#4 then decodeRdreg (argOf w)
  else if opcOf w = 0x9#4 then bare (argOf w) .iter
  else .error .opcode

/-- The operation a word selects, or none where the word is illegal (R74, R80). -/
def decode (w : CmdWord) : Option Instr :=
  match decodeNamed w with
  | .ok i => some i
  | .error _ => none

/-- A command word from its `OPC` and `ARG`, with `RSV = 00` (R70). -/
def cmdWord (opc : BitVec 4) (arg : Word10) : CmdWord := opc ++ (0#2 ++ arg)

/-- The word of an operation (R80): the inverse of `decode` on well-formed operations. -/
def encode : Instr → CmdWord
  | .init => cmdWord 0x1#4 0
  | .measure => cmdWord 0x2#4 0
  | .hyst raw => cmdWord 0x3#4 raw
  | .gamma v => cmdWord 0x4#4 v
  | .scale v => cmdWord 0x5#4 v
  | .dither v => cmdWord 0x6#4 v
  | .setduty d => cmdWord 0x7#4 (d.setWidth 10)
  | .rdreg i => cmdWord 0x8#4 (i.setWidth 10)
  | .iter => cmdWord 0x9#4 0

/-- What a pseudo-operation expands to (R79). -/
def Pseudo.expand : Pseudo → Instr
  | .rdTracked => .rdreg 0
  | .rdPhase => .rdreg 1
  | .rdDuty => .rdreg 2
  | .rdTcr => .rdreg 3
  | .rdStatus => .rdreg 4
  | .off => .setduty 0

/-- The command word of a row of spec/opcode_table.json given as a number of `nbits` bits: a command is
one 16-bit unit presented in parallel (R50), so there is no byte order to lay out. -/
def tableWord (nbits w : Nat) : CmdWord := BitVec.ofNat 16 (w % 2 ^ nbits)

/-- What the decoder reads from a table word; a number that does not fit 16 bits is no command. -/
def decodeTableWord (nbits w : Nat) : Option Instr :=
  if w % 2 ^ nbits < 65536 then decode (tableWord nbits w) else none

end Sys2Proof
end

