-- ==== Sys2Proof/Machine/State.lean ====
section
/-! DEFINITION. The state of the block as plain data (spec/10_state.md), the reasons a step can stop,
and the state right after reset (R43). -/

namespace Sys2Proof.Machine

/-- The five causes of a fault of the block (spec/60_exceptions.md R210). Each is TAKEN as R221 says (the
block halts and goes on ignoring commands): a cause is no reason for a step of this model to stop. -/
inductive Cause where
  /-- `INIT` with `ACQ_OK` false (R211). -/
  | acqFail
  /-- `INIT` on a Configured driver (R213). -/
  | reinit
  /-- `MEASURE`, `SETDUTY` or `ITER` on an Uninitialized driver (R214). -/
  | notConfigured
  /-- `DITHER` or stage 5 of `ITER` with a sum of 256 (R215). -/
  | dutyOverflow
  /-- A word that selects no operation (R216). -/
  | illegalCmd
  deriving DecidableEq, Repr

/-- An operation that a reset request abandons (R240): the command word in progress, and how many of its
sub-steps were complete when the request came. -/
structure Abandoned where
  word : CmdWord
  subSteps : Nat
  deriving DecidableEq, Repr

/-- What happens at the block's inputs next (R77): one command word, a reset request, or a change made
by the host microcontroller between two operations. -/
inductive Input where
  /-- A word on the port `cmd` (R70). -/
  | cmd (w : CmdWord)
  /-- The input `rst`, or a power cycle (R240): between two operations (`none`) or inside one, which it
  then abandons; with the values the vendor's registers come up with, a fresh `DUTY_RESET` and
  `TCR_OTHER_RESET` for each reset (R26, R29). -/
  | rst (during : Option Abandoned) (dutyReset : Duty) (otherReset : BitVec 6)
  /-- The host changes the "other timer control bits" of `TCR` (R30). -/
  | hostTimerBits (other : BitVec 6)
  /-- The host sets its own global interrupt enable (R38). -/
  | hostIntEnable (on : Bool)
  deriving DecidableEq, Repr

/-- One moment inside an operation that the PWM channel or a handler of the host can see (R58, R163): the
five registers as the completed sub-steps left them, the output `irq_lock`, and whether a handler can
run at that moment (R218). -/
structure Moment where
  tracked : Word10
  phase : Phase
  duty : Duty
  tcr : BitVec 8
  status : BitVec 5
  irqLock : Bool
  handlerMayRun : Bool
  deriving DecidableEq, Repr

/-- The state of the machine: the five registers of R20, the outputs R43 names, and the model's own
fields for the block's inputs. -/
structure State where
  /-- `TRACKED`, x[0] (R21). -/
  tracked : Word10
  /-- `PHASE`, x[1] (R22). -/
  phase : Phase
  /-- `DUTY`, x[2] (R25): the inverted duty. -/
  duty : Duty
  /-- `TCR`, x[3] (R27, R28): bit 0 `PWM_EN`, bit 1 `INV`, bits 7:2 `OTHER`. -/
  tcr : BitVec 8
  /-- `STATUS`, x[4] (R31): bit 0 `CONFIGURED`, bit 1 `HALTED`, bits 4:2 `CAUSE`. -/
  status : BitVec 5
  /-- The output `irq_lock` (R38, R43). -/
  irqLock : Bool
  /-- Model's own, no state of the block: the return value of the step that answered this state, `none` where
  no result is driven (R39, R76). The host's form of a step answers a state alone, so the value travels in it;
  no step reads it, and `stepReturning` is the step in R39's own form (log 6). -/
  res : Option Word10
  /-- The host's global interrupt enable: outside the CORE, touched through `irq_lock` (R38). -/
  hostIntEnable : Bool
  /-- `PERCENT_CAP`, a constant of the block that State carries as an argument (R7, R37). -/
  percentCap : Config.Cap
  /-- Model's own: what the last operation showed between its sub-steps, oldest first (R163); an operation
  that a reset abandoned shows what it had shown until then (R240). -/
  trace : List Moment
  /-- Model's own: what comes in next at `cmd`, `rst` and from the host, oldest first (R57). -/
  inputs : List Input
  /-- Model's own: the answers the ADC gives next, oldest first (R36); past its end they are free. -/
  adcIn : List Word10
  /-- Model's own: how often `adc_start` has triggered a conversion (R101). -/
  conversions : Nat
  /-- Model's own: the values of `ACQ_OK` that `INIT` samples next (R162); past its end they are free. -/
  acqIn : List Bool
  /-- Model's own: how often `INIT` has sampled `ACQ_OK`. -/
  acqSamples : Nat
  deriving DecidableEq, Repr

/-- Reasons a step stops with a fault: NONE. Every fault of the block has an entry the spec describes
(R221: it halts, and then ignores every command, R222), so each is a next state. -/
inductive Fault where
  deriving DecidableEq, Repr

/-- Reasons the model gives no meaning. -/
inductive Refusal where
  /-- An operation whose meaning is not written: raised by no arm of `exec` (every operation has its
  meaning). Safe. -/
  | notModelled (mnemonic : String)
  /-- A configuration with `PERCENT_CAP` above 100, which a model refuses (R7): raised by `admitCap`, never
  by a step. Safe. -/
  | capAbove100 (cap : Nat)
  deriving DecidableEq, Repr

/-- The state right after reset: the table of R43. `DUTY` and `TCR.OTHER` are the open values of R26 and
R29; the lists of inputs are empty, so nothing is presented and every environment answer is free. -/
def State.reset : State where
  tracked := 0
  phase := 0
  duty := Config.dutyReset
  tcr := Config.tcrOtherReset ++ 0#2
  status := 0
  irqLock := false
  res := none
  hostIntEnable := Config.hostIntEnable
  percentCap := Config.percentCap
  trace := []
  inputs := []
  adcIn := []
  conversions := 0
  acqIn := []
  acqSamples := 0

end Sys2Proof.Machine
end

