-- ==== Sys2Proof/Machine/Flags.lean ====
section
/-! DEFINITION. The fields of `STATUS` and `TCR`. The block has no arithmetic flag (spec/10_state.md R33):
these are its only flag-like bits. -/

namespace Sys2Proof.Machine

/-- The code of a cause in `STATUS.CAUSE` (R32, R210). -/
def Cause.code : Cause → BitVec 3
  | .acqFail => 1
  | .reinit => 2
  | .notConfigured => 3
  | .dutyOverflow => 4
  | .illegalCmd => 5

/-- `STATUS` from its three fields (R31, R55). -/
def statusWord (cause : BitVec 3) (halted configured : Bool) : BitVec 5 :=
  cause ++ (BitVec.ofBool halted ++ BitVec.ofBool configured)

/-- `STATUS.CONFIGURED`, bit 0 (R31). -/
def statusConfigured (status : BitVec 5) : Bool := status.getLsbD 0

/-- `STATUS.HALTED`, bit 1 (R31). -/
def statusHalted (status : BitVec 5) : Bool := status.getLsbD 1

/-- `STATUS.CAUSE`, bits 4:2 (R31). -/
def statusCause (status : BitVec 5) : BitVec 3 := status.extractLsb' 2 3

/-- `TCR` from its three fields: `{OTHER[5:0], INV, PWM_EN}` (R28, R55). -/
def tcrWord (other : BitVec 6) (inv pwmEn : Bool) : BitVec 8 :=
  other ++ (BitVec.ofBool inv ++ BitVec.ofBool pwmEn)

/-- `TCR.PWM_EN`, bit 0 (R28). -/
def tcrPwmEn (tcr : BitVec 8) : Bool := tcr.getLsbD 0

/-- `TCR.INV`, bit 1 (R28). -/
def tcrInv (tcr : BitVec 8) : Bool := tcr.getLsbD 1

/-- `TCR.OTHER`, bits 7:2 (R28). -/
def tcrOther (tcr : BitVec 8) : BitVec 6 := tcr.extractLsb' 2 6

/-- The driver is Configured (R31, R42). -/
def State.configured (s : State) : Bool := statusConfigured s.status

/-- The block is in the inert state (R31, R222). -/
def State.halted (s : State) : Bool := statusHalted s.status

/-- The recorded fault cause, 0 where there is none (R31, R32). -/
def State.cause (s : State) : BitVec 3 := statusCause s.status

/-- The channel is configured for PWM output (R28). -/
def State.pwmEn (s : State) : Bool := tcrPwmEn s.tcr

/-- The compare mode is inverted (R28). -/
def State.inv (s : State) : Bool := tcrInv s.tcr

/-- The "other timer control bits" (R28, R30). -/
def State.other (s : State) : BitVec 6 := tcrOther s.tcr

/-- `STATUS.CONFIGURED <- 1`; the other fields stay (R31). -/
def State.setConfigured (s : State) : State :=
  { s with status := statusWord s.cause s.halted true }

/-- `STATUS.HALTED <- 1` and `STATUS.CAUSE <- code`, in one action; `CONFIGURED` stays (R221). -/
def State.setHalted (c : Cause) (s : State) : State :=
  { s with status := statusWord c.code true s.configured }

/-- `TCR.PWM_EN <- 1`: a field write leaves the other fields as they are (R163). -/
def State.setPwmEn (s : State) : State := { s with tcr := tcrWord s.other s.inv true }

/-- The one atomic update of `TCR` in `INIT`: `INV <- 1`, `PWM_EN` and `OTHER` written back as read
(R54, R161). -/
def State.setInv (s : State) : State := { s with tcr := tcrWord s.other true s.pwmEn }

/-- The host's change of `TCR.OTHER`; a handler writes neither `PWM_EN` nor `INV` (R30, R218). -/
def State.setOther (other : BitVec 6) (s : State) : State :=
  { s with tcr := tcrWord other s.inv s.pwmEn }

end Sys2Proof.Machine
end

