-- ==== Sys2Proof/Machine/Operands.lean ====
section
/-! DEFINITION. Arithmetic primitives (spec/00_scope.md R11), the register space (spec/10_state.md R35,
spec/20_memory.md R55) and the outputs of the block (spec/30_encoding.md R77). -/

namespace Sys2Proof.Machine

/-- `sat_add(a, b, top)` (R11). -/
def satAdd (a b top : Nat) : Nat := min (a + b) top

/-- `clamp(v, lo, hi)` (R11). -/
def clamp (v lo hi : Nat) : Nat := min (max v lo) hi

/-- `invert(d8) = 255 - d8` (R160, R167). -/
def invert (d : Duty) : Duty := 255#8 - d

/-- `x[i]`, zero-extended to the 10-bit result; `none` for the unimplemented indices 5 to 7 (R35, R55;
this is also `MemRead(i, 1)` of R12). -/
def State.regRead (s : State) (i : RegIndex) : Option Word10 :=
  match i.toNat with
  | 0 => some s.tracked
  | 1 => some (s.phase.setWidth 10)
  | 2 => some (s.duty.setWidth 10)
  | 3 => some (s.tcr.setWidth 10)
  | 4 => some (s.status.setWidth 10)
  | _ => none

/-- The outputs the block drives continuously (R31, R77). -/
structure Pins where
  dutyReg : Duty
  tcr : BitVec 8
  irqLock : Bool
  configured : Bool
  halted : Bool
  cause : BitVec 3
  deriving DecidableEq, Repr

/-- The continuous outputs in a state (R77). -/
def State.pins (s : State) : Pins where
  dutyReg := s.duty
  tcr := s.tcr
  irqLock := s.irqLock
  configured := s.configured
  halted := s.halted
  cause := s.cause

/-- Whether the host can take an interrupt: never while `irq_lock` is asserted (R218). -/
def State.handlerMayRun (s : State) : Bool := s.hostIntEnable && !s.irqLock

/-- What can be seen of the block at this moment (R58, R163). -/
def State.moment (s : State) : Moment where
  tracked := s.tracked
  phase := s.phase
  duty := s.duty
  tcr := s.tcr
  status := s.status
  irqLock := s.irqLock
  handlerMayRun := s.handlerMayRun

end Sys2Proof.Machine
end

