-- ==== Sys2Proof/Machine/Ops.lean ====
section
/-! DEFINITION. The operations the meanings share: the prologue of every command, carrying out an operation's
sub-steps, driving a result, drawing from the environment, TAKING A FAULT (`State.raise`, spec/60_exceptions.md R221) and beside it the
one way out of the halt (`State.resetTo`, R224, R240: there is no return from a fault). -/

namespace Sys2Proof.Machine

/-- The shape of every answer of a step. -/
abbrev Answer := Host.Outcome State Fault Refusal

/-- The ports as a new input finds them: the result of the operation before is gone (R39), and nothing
is seen yet of this one. -/
def State.quiet (s : State) : State := { s with res := none, trace := [] }

/-- The sub-steps of an operation in their order, each complete before the next begins (R52, R57, R58). -/
abbrev SubSteps := List (State → State)

/-- Perform sub-steps one after the other, each on what those before it left (R58). -/
def State.perform (fs : SubSteps) (s : State) : State := fs.foldl (fun t f => f t) s

/-- The state of the block, which holds no result (R39). -/
def State.withoutResult (s : State) : State := { s with res := none }

/-- An answer with the result as its return value, beside a state that holds none (R39). -/
def returning (a : Answer) : Host.Outcome (State × Option Word10) Fault Refusal :=
  match a with
  | .next t => .next (t.withoutResult, t.res)
  | .fault f => .fault f
  | .refused r => .refused r

/-- The prologue of every command (R100, R222): a halted block ignores it; otherwise its sub-steps are
performed. -/
def State.carryOut (steps : State → SubSteps) (s : State) : State :=
  match s.halted with
  | true => s.quiet
  | false => s.quiet.perform (steps s.quiet)

/-- One whole operation (R57). The block never stops answering (R261), so the answer is always a next
state. -/
def operate (steps : State → SubSteps) (s : State) : Answer := .next (s.carryOut steps)

/-- `raise <Cause>` (R13, R221): halt and record the cause in one action, drive no result, release
`irq_lock`; every register but `STATUS` stays as the operation left it. -/
def State.raise (c : Cause) (s : State) : State :=
  { s.setHalted c with res := none, irqLock := false }

/-- `RES <- v` (R12, R76). -/
def State.drive (v : Word10) (s : State) : State := { s with res := some v }

/-- `TRACKED <- v` (R21). -/
def State.setTracked (v : Word10) (s : State) : State := { s with tracked := v }

/-- `PHASE <- v` (R22). -/
def State.setPhase (v : Phase) (s : State) : State := { s with phase := v }

/-- `DUTY <- v`: one atomic store (R52). -/
def State.setDuty (v : Duty) (s : State) : State := { s with duty := v }

/-- `irq_lock <- b` (R38). -/
def State.setIrqLock (b : Bool) (s : State) : State := { s with irqLock := b }

/-- Show the present moment to the outside (R163). -/
def State.observe (s : State) : State := { s with trace := s.trace ++ [s.moment] }

/-- `draw ADC` (R14): the value the next conversion returns, any in 0 to 1023. -/
def State.adcNext (s : State) : Word10 :=
  match s.adcIn with
  | v :: _ => v
  | [] => Config.adcSample s.conversions

/-- One conversion is triggered and its answer consumed (R36, R101). -/
def State.convert (s : State) : State :=
  { s with adcIn := s.adcIn.tail, conversions := s.conversions + 1 }

/-- `env ACQ_OK` (R14, R162): the value the next `INIT` samples. -/
def State.acqNext (s : State) : Bool :=
  match s.acqIn with
  | b :: _ => b
  | [] => Config.acqOk s.acqSamples

/-- `ACQ_OK` is sampled once (R162). -/
def State.sampleAcq (s : State) : State :=
  { s with acqIn := s.acqIn.tail, acqSamples := s.acqSamples + 1 }

/-- The sub-steps of an operation that needs a Configured driver; otherwise `NOT_CONFIGURED`, before
anything else (R214). -/
def needConfigured (steps : State → SubSteps) (s : State) : SubSteps :=
  match s.configured with
  | true => steps s
  | false => [State.raise .notConfigured]

/-- Reset (R43, R240, R242): every register and output of the block at its reset value, from any state.
What is not the block's stays: its configuration, the host's interrupt enable, the inputs to come, and what
the outside has already seen. -/
def State.resetTo (dutyReset : Duty) (otherReset : BitVec 6) (s : State) : State :=
  { s with
    tracked := 0
    phase := 0
    duty := dutyReset
    tcr := tcrWord otherReset false false
    status := 0
    irqLock := false
    res := none }

/-- What is still to come in. -/
def State.setInputs (rest : List Input) (s : State) : State := { s with inputs := rest }

/-- The host's interrupt enable, set by the host alone (R38). -/
def State.setHostIntEnable (on : Bool) (s : State) : State := { s with hostIntEnable := on }

/-- The next input and the state in which it is handled (R57: one at a time, in arrival order). -/
def State.accept (s : State) : Option (Input × State) :=
  match s.inputs with
  | [] => none
  | i :: rest => some (i, s.setInputs rest)

/-- Nothing is presented: no register changes and no result is driven (R39). -/
def idle (s : State) : Answer := .next s.quiet

/-- A word that selects no operation has one sub-step, its fault (R74, R216). -/
def illegalSteps (_ : State) : SubSteps := [State.raise .illegalCmd]

/-- A word that selects no operation (R74, R216). -/
def illegalCommand (s : State) : Answer := operate illegalSteps s

/-- The host changes the other timer control bits between two operations (R30). -/
def hostWritesOther (other : BitVec 6) (s : State) : Answer := .next (s.quiet.setOther other)

/-- The host changes its own interrupt enable between two operations (R38). -/
def hostSetsIntEnable (on : Bool) (s : State) : Answer := .next (s.quiet.setHostIntEnable on)

/-- A power cap as a configuration argument: above 100 it is refused (R7). -/
def admitCap (n : Nat) : Except Refusal Config.Cap :=
  if h : n ≤ 100 then .ok ⟨n, by omega⟩ else .error (.capAbove100 n)

end Sys2Proof.Machine
end

