-- ==== Sys2Proof/Machine/Dither.lean ====
section
/-! DEFINITION. dither_sequencer: `DITHER` (spec/42_dither.md). -/

namespace Sys2Proof.Machine

/-- `DITHER_TABLE`: rows by remainder, columns by phase (R140). -/
def ditherTable : List (List Nat) :=
  [[0, 0, 0, 0],
   [1, 0, 0, 0],
   [1, 0, 1, 0],
   [1, 1, 1, 0]]

/-- `DITHER_TABLE[rem2][phase]` (R142). -/
def ditherEntry (rem : BitVec 2) (phase : Phase) : Nat :=
  (ditherTable.getD rem.toNat []).getD phase.toNat 0

/-- `base8 = v[9:2]` (R141). -/
def base8 (v : Word10) : Duty := v.extractLsb' 2 8

/-- `rem2 = v[1:0]` (R141). -/
def rem2 (v : Word10) : BitVec 2 := v.extractLsb' 0 2

/-- `sum9`: the base duty plus the selected entry, 0 to 256 (R143). -/
def ditherSum (v : Word10) (phase : Phase) : BitVec 9 :=
  BitVec.ofNat 9 ((base8 v).toNat + ditherEntry (rem2 v) phase)

/-- `next2 = (phase2 + 1) mod 4` (R143): the increment wraps by dropping the carry (R22). -/
def nextPhase (phase : Phase) : Phase := phase + 1

/-- The stage `DITHER` and `ITER` share (R144), at the present phase: on a sum above 255 raise
`DUTY_OVERFLOW` with nothing written, otherwise advance the phase and go on with the 8-bit duty. -/
def ditherStage (v : Word10) (phase : Phase) (onDuty : Duty → SubSteps) : SubSteps :=
  if (ditherSum v phase).toNat > Config.pwmMax then [State.raise .dutyOverflow]
  else State.setPhase (nextPhase phase) :: onDuty ((ditherSum v phase).setWidth 8)

/-- `DITHER v10` after the prologue (R144). -/
def ditherSteps (v : Word10) (s : State) : SubSteps :=
  ditherStage v s.phase (fun d => [State.drive (d.setWidth 10)])

/-- `DITHER v10` (R144). -/
def execDither (v : Word10) (s : State) : Answer := operate (ditherSteps v) s

end Sys2Proof.Machine
end

