-- ==== Sys2Proof/Machine/Driver.lean ====
section
/-! DEFINITION. inverted_pwm_driver: `INIT`, `SETDUTY` and `RDREG` (spec/43_pwm_driver.md). -/

namespace Sys2Proof.Machine

/-- Sub-steps 1 and 2 of `INIT` (R161, R163): configure the channel, then program application duty 0;
each is one indivisible write after which the outside can look. -/
def channelSteps : SubSteps :=
  [fun s => s.setPwmEn.observe, fun s => (s.setDuty 255#8).observe]

/-- Sub-step 3 of `INIT` (R54, R161): with `irq_lock` asserted, the one atomic update of `TCR`; then the
interrupt state is given back. -/
def switchSteps : SubSteps :=
  [fun s => (s.setIrqLock true).observe, fun s => s.setInv.observe, State.setIrqLock false]

/-- `INIT` after the prologue (R161): `REINIT` before `ACQ_OK` is sampled (R213, R220), `ACQ_FAIL` before
any register is written (R211). -/
def initSteps (s : State) : SubSteps :=
  match s.configured, s.acqNext with
  | true, _ => [State.raise .reinit]
  | false, true => State.sampleAcq :: channelSteps ++ switchSteps ++ [State.setConfigured]
  | false, false => [State.sampleAcq, State.raise .acqFail]

/-- Program one application duty: `DUTY <- 255 - d8` (R166). -/
def State.program (d : Duty) (s : State) : State := s.setDuty (invert d)

/-- `SETDUTY d8` on a Configured driver (R166). -/
def setdutySteps (d : Duty) (_ : State) : SubSteps := [State.program d]

/-- `RDREG i3` after the prologue (R170); an unimplemented index raises `ILLEGAL_CMD` (R35). -/
def rdregSteps (i : RegIndex) (s : State) : SubSteps :=
  match s.regRead i with
  | some v => [State.drive v]
  | none => [State.raise .illegalCmd]

/-- `INIT` (R161). -/
def execInit (s : State) : Answer := operate initSteps s

/-- `SETDUTY d8` (R166). -/
def execSetduty (d : Duty) (s : State) : Answer := operate (needConfigured (setdutySteps d)) s

/-- `RDREG i3` (R170). -/
def execRdreg (i : RegIndex) (s : State) : Answer := operate (rdregSteps i) s

end Sys2Proof.Machine
end

