-- ==== Sys2Proof/Machine/Hysteresis.lean ====
section
/-! DEFINITION. hysteresis_filter: `MEASURE` and `HYST` (spec/40_hysteresis.md). -/

namespace Sys2Proof.Machine

/-- `MEASURE` on a Configured driver (R101): one conversion, then its sample on `RES`. -/
def measureSteps (s : State) : SubSteps := [State.convert, State.drive s.adcNext]

/-- The tracking function `hyst(raw, previous)`, its three clauses in order (R103). -/
def hyst (raw previous : Word10) : Word10 :=
  if raw.toNat > satAdd previous.toNat 1 Config.adcMax then BitVec.ofNat 10 (raw.toNat - 1)
  else if raw.toNat < previous.toNat then raw
  else previous

/-- Fold one sample into `TRACKED` (R104). -/
def State.track (raw : Word10) (s : State) : State := s.setTracked (hyst raw s.tracked)

/-- `HYST raw10` after the prologue (R104). -/
def hystSteps (raw : Word10) (s : State) : SubSteps :=
  [State.track raw, State.drive (hyst raw s.tracked)]

/-- `MEASURE` (R101). -/
def execMeasure (s : State) : Answer := operate (needConfigured measureSteps) s

/-- `HYST raw10` (R104). -/
def execHyst (raw : Word10) (s : State) : Answer := operate (hystSteps raw) s

end Sys2Proof.Machine
end

