-- ==== Sys2Proof/Machine/Mapper.lean ====
section
/-! DEFINITION. gamma_corrector_scaler: `GAMMA` and `SCALE` (spec/41_mapper.md). -/

namespace Sys2Proof.Machine

/-- `gamma(v)`: the square over 1023, then the clamp the source states (R122). -/
def gamma (v : Word10) : Word10 :=
  BitVec.ofNat 10 (clamp (v.toNat * v.toNat / Config.adcMax) 0 Config.adcMax)

/-- `scale(v)` at a cap: the product first, then the division by 100 (R126). -/
def scale (cap : Config.Cap) (v : Word10) : Word10 := BitVec.ofNat 10 (v.toNat * cap.val / 100)

/-- The mapper of one iteration: gamma first, cap second (R128). -/
def mapper (cap : Config.Cap) (v : Word10) : Word10 := scale cap (gamma v)

/-- `GAMMA v10` after the prologue (R121). -/
def gammaSteps (v : Word10) (_ : State) : SubSteps := [State.drive (gamma v)]

/-- `SCALE v10` after the prologue (R125), at the cap the block carries. -/
def scaleSteps (v : Word10) (s : State) : SubSteps := [State.drive (scale s.percentCap v)]

/-- `GAMMA v10` (R121). -/
def execGamma (v : Word10) (s : State) : Answer := operate (gammaSteps v) s

/-- `SCALE v10` (R125). -/
def execScale (v : Word10) (s : State) : Answer := operate (scaleSteps v) s

end Sys2Proof.Machine
end

