-- ==== Sys2Proof/Machine/Loop.lean ====
section
/-! DEFINITION. The control loop: `ITER` (spec/44_control_loop.md). -/

namespace Sys2Proof.Machine

/-- `ITER` on a Configured driver, its six stages in order (R190): the mapper gets the
tracked value of this same iteration (R58), and a fault in the ditherer leaves `TRACKED` written (R192). -/
def iterSteps (s : State) : SubSteps :=
  [State.convert, State.track s.adcNext] ++
    ditherStage (mapper s.percentCap (hyst s.adcNext s.tracked)) s.phase
      (fun d => [State.program d, State.drive (d.setWidth 10)])

/-- `ITER` (R190). -/
def execIter (s : State) : Answer := operate (needConfigured iterSteps) s

end Sys2Proof.Machine
end

