-- ==== Sys2Proof/Machine/Dispatch.lean ====
section
/-! DEFINITION. One arm per operation of the opcode table (spec/30_encoding.md R73). -/

namespace Sys2Proof.Machine

/-- What an operation does (R73): one direct call of its meaning. -/
def exec (i : Instr) (s : State) : Host.Outcome State Fault Refusal :=
  match i with
  | .init => Sys2Proof.Machine.execInit s
  | .measure => Sys2Proof.Machine.execMeasure s
  | .hyst raw => Sys2Proof.Machine.execHyst raw s
  | .gamma v => Sys2Proof.Machine.execGamma v s
  | .scale v => Sys2Proof.Machine.execScale v s
  | .dither v => Sys2Proof.Machine.execDither v s
  | .setduty d => Sys2Proof.Machine.execSetduty d s
  | .rdreg i3 => Sys2Proof.Machine.execRdreg i3 s
  | .iter => Sys2Proof.Machine.execIter s

end Sys2Proof.Machine
end

