-- ==== Sys2Proof/Machine/Reset.lean ====
section
/-! DEFINITION. A reset request, between two operations or inside one (spec/70_reset_and_hazards.md R240). -/

namespace Sys2Proof.Machine

/-- The sub-steps an operation goes through on a block that is not halted: those its meaning performs. -/
def subSteps (i : Instr) : State → SubSteps :=
  match i with
  | .init => initSteps
  | .measure => needConfigured measureSteps
  | .hyst raw => hystSteps raw
  | .gamma v => gammaSteps v
  | .scale v => scaleSteps v
  | .dither v => ditherSteps v
  | .setduty d => needConfigured (setdutySteps d)
  | .rdreg i3 => rdregSteps i3
  | .iter => needConfigured iterSteps

/-- The sub-steps of a command word, legal or not (R80, R216). -/
def wordSteps (w : CmdWord) : State → SubSteps :=
  match decode w with
  | some i => subSteps i
  | none => illegalSteps

/-- The block in the middle of the operation that a reset request is about to abandon: the first sub-steps
are complete and the others never happen (R240). A halted block has no operation in progress (R222), and a
count beyond the last sub-step is the whole operation. -/
def State.partWay (a : Abandoned) (s : State) : State :=
  s.carryOut (fun t => (wordSteps a.word t).take a.subSteps)

/-- A reset request (R240): it acts in every state and is no command (R81). Inside an operation it finds the
block part way and abandons the rest. DESIGN CHOICE (log 11): R240 and R58 do not say whether the PWM channel
still sees a `DUTY` that the abandoned operation had written (`SETDUTY` after 1 sub-step, `ITER` after 4). Here
the write happened and the reset value replaces it within this one step, so neither `duty`, `pins` nor `trace`
shows the value. -/
def resetRequest (during : Option Abandoned) (dutyReset : Duty) (otherReset : BitVec 6) (s : State) :
    Answer :=
  .next (State.resetTo dutyReset otherReset
    (match during with
      | none => s.quiet
      | some a => s.partWay a))

end Sys2Proof.Machine
end

