-- ==== Sys2Proof/Machine/Step.lean ====
section
/-! DEFINITION. One step: the next input is handled to completion before the one after it is looked at
(spec/20_memory.md R57), but for an operation a reset request abandons (R240). There is no program counter and no fetch (spec/10_state.md R24). -/

namespace Sys2Proof.Machine

/-- One command word (R80, R100): the operation it selects, or `ILLEGAL_CMD`. -/
def execWord (w : CmdWord) (s : State) : Host.Outcome State Fault Refusal :=
  match decode w with
  | some i => exec i s
  | none => illegalCommand s

/-- One input, in the state that no longer lists it. -/
def handle (i : Input) (s : State) : Host.Outcome State Fault Refusal :=
  match i with
  | .cmd w => execWord w s
  | .rst during dutyReset otherReset => resetRequest during dutyReset otherReset s
  | .hostTimerBits other => hostWritesOther other s
  | .hostIntEnable on => hostSetsIntEnable on s

/-- One step of the machine: the next input, or nothing where none is presented. -/
def step (s : State) : Host.Outcome State Fault Refusal :=
  match s.accept with
  | some (i, t) => handle i t
  | none => idle s

/-- The step in the form R39 gives it: the next state of the block, which holds no result, and the result as
the return value. Nothing is lost between two steps: `step` answers the same from both states
(`step_withoutResult`). -/
def stepReturning (s : State) : Host.Outcome (State × Option Word10) Fault Refusal := returning (step s)

/-- The issuer presents the command of a table row next (log 5): it is put before every other input. -/
def State.withFetchWord (s : State) (nbits w : Nat) : State :=
  { s with inputs := .cmd (tableWord nbits w) :: s.inputs }

end Sys2Proof.Machine
end

