-- ==== Sys2Proof/Machine/Assembler.lean ====
section
/-! DEFINITION. The textual form of a command (spec/30_encoding.md R78, R79): one line of text to at most
one command word, and the text of an operation. No part of the machine's step uses it. -/

namespace Sys2Proof.Machine

/-- What one line of assembler text gives (R78). -/
inductive AsmLine where
  /-- One command word. -/
  | word (w : CmdWord)
  /-- Nothing but a comment or blanks. -/
  | blank
  /-- An assembly error, which produces no word. -/
  | error
  deriving DecidableEq, Repr

/-- The value of a decimal digit. -/
def decDigit (c : Char) : Option Nat :=
  if 48 ≤ c.toNat ∧ c.toNat ≤ 57 then some (c.toNat - 48) else none

/-- The value of a hexadecimal digit, in capitals or small letters. -/
def hexDigit (c : Char) : Option Nat :=
  if 48 ≤ c.toNat ∧ c.toNat ≤ 57 then some (c.toNat - 48)
  else if 65 ≤ c.toNat ∧ c.toNat ≤ 70 then some (c.toNat - 55)
  else if 97 ≤ c.toNat ∧ c.toNat ≤ 102 then some (c.toNat - 87)
  else none

/-- Read digits in a base after the value `acc`. -/
def readDigits (digit : Char → Option Nat) (base acc : Nat) : List Char → Option Nat
  | [] => some acc
  | c :: cs =>
    match digit c with
    | some d => readDigits digit base (acc * base + d) cs
    | none => none

/-- At least one digit. -/
def readNumber (digit : Char → Option Nat) (base : Nat) (cs : List Char) : Option Nat :=
  match cs with
  | [] => none
  | _ :: _ => readDigits digit base 0 cs

/-- An operand: an unsigned decimal number, or hexadecimal with `0x` (R78). -/
def readOperand (cs : List Char) : Option Nat :=
  match cs with
  | '0' :: 'x' :: hex => readNumber hexDigit 16 hex
  | _ => readNumber decDigit 10 cs

/-- A comment runs from `;` to the end of the line (R78). -/
def stripComment (cs : List Char) : List Char := cs.takeWhile (fun c => c != ';')

/-- Blanks before a comment or the end of the line carry nothing. DESIGN CHOICE (log 12). -/
def stripTrailing (cs : List Char) : List Char :=
  (cs.reverse.dropWhile (fun c => c == ' ' || c == '\t' || c == '\r')).reverse

/-- The mnemonics of R73 for the operations without an operand, and the aliases of R79. -/
def asmBare (name : List Char) : Option Instr :=
  if name = ['I', 'N', 'I', 'T'] then some .init
  else if name = ['M', 'E', 'A', 'S', 'U', 'R', 'E'] then some .measure
  else if name = ['I', 'T', 'E', 'R'] then some .iter
  else if name = ['R', 'D', 'T', 'R', 'A', 'C', 'K', 'E', 'D'] then some Pseudo.rdTracked.expand
  else if name = ['R', 'D', 'P', 'H', 'A', 'S', 'E'] then some Pseudo.rdPhase.expand
  else if name = ['R', 'D', 'D', 'U', 'T', 'Y'] then some Pseudo.rdDuty.expand
  else if name = ['R', 'D', 'T', 'C', 'R'] then some Pseudo.rdTcr.expand
  else if name = ['R', 'D', 'S', 'T', 'A', 'T', 'U', 'S'] then some Pseudo.rdStatus.expand
  else if name = ['O', 'F', 'F'] then some Pseudo.off.expand
  else none

/-- The mnemonics of R73 for the operations with an operand; an operand out of the field's range is an
assembly error (R78). -/
def asmOperand (name : List Char) (n : Nat) : Option Instr :=
  if name = ['H', 'Y', 'S', 'T'] then
    if n < 1024 then some (.hyst (BitVec.ofNat 10 n)) else none
  else if name = ['G', 'A', 'M', 'M', 'A'] then
    if n < 1024 then some (.gamma (BitVec.ofNat 10 n)) else none
  else if name = ['S', 'C', 'A', 'L', 'E'] then
    if n < 1024 then some (.scale (BitVec.ofNat 10 n)) else none
  else if name = ['D', 'I', 'T', 'H', 'E', 'R'] then
    if n < 1024 then some (.dither (BitVec.ofNat 10 n)) else none
  else if name = ['S', 'E', 'T', 'D', 'U', 'T', 'Y'] then
    if n < 256 then some (.setduty (BitVec.ofNat 8 n)) else none
  else if name = ['R', 'D', 'R', 'E', 'G'] then
    if n < 5 then some (.rdreg (BitVec.ofNat 3 n)) else none
  else none

/-- `.word 0x....`: a word of four hexadecimal digits, legal or not (R78). DESIGN CHOICE (log 12). -/
def asmDirective (operand : List Char) : AsmLine :=
  match operand with
  | ['0', 'x', a, b, c, d] =>
    match readNumber hexDigit 16 [a, b, c, d] with
    | some n => .word (BitVec.ofNat 16 n)
    | none => .error
  | _ => .error

/-- An operation's word, or an assembly error. -/
def asmWord (i : Option Instr) : AsmLine :=
  match i with
  | some i => .word (encode i)
  | none => .error

/-- A mnemonic, one space and an operand (R78). -/
def asmWithOperand (name operand : List Char) : AsmLine :=
  if name = ['.', 'w', 'o', 'r', 'd'] then asmDirective operand
  else
    match readOperand operand with
    | some n => asmWord (asmOperand name n)
    | none => .error

/-- One line of assembler text (R78): the mnemonic, then, for an operation with an operand, one space
and the operand. -/
def assembleLine (line : List Char) : AsmLine :=
  let text := stripTrailing (stripComment line)
  let name := text.takeWhile (fun c => c != ' ')
  match text, text.dropWhile (fun c => c != ' ') with
  | [], _ => .blank
  | _ :: _, [] => asmWord (asmBare name)
  | _ :: _, _ :: operand => asmWithOperand name operand

/-- A mnemonic and its decimal operand. -/
def asmText (name : List Char) (n : Nat) : List Char := name ++ ' ' :: Nat.toDigits 10 n

/-- The text of an operation (R78). -/
def instrText : Instr → List Char
  | .init => ['I', 'N', 'I', 'T']
  | .measure => ['M', 'E', 'A', 'S', 'U', 'R', 'E']
  | .hyst raw => asmText ['H', 'Y', 'S', 'T'] raw.toNat
  | .gamma v => asmText ['G', 'A', 'M', 'M', 'A'] v.toNat
  | .scale v => asmText ['S', 'C', 'A', 'L', 'E'] v.toNat
  | .dither v => asmText ['D', 'I', 'T', 'H', 'E', 'R'] v.toNat
  | .setduty d => asmText ['S', 'E', 'T', 'D', 'U', 'T', 'Y'] d.toNat
  | .rdreg i => asmText ['R', 'D', 'R', 'E', 'G'] i.toNat
  | .iter => ['I', 'T', 'E', 'R']

/-- The text of a pseudo-operation (R79). -/
def pseudoText : Pseudo → List Char
  | .rdTracked => ['R', 'D', 'T', 'R', 'A', 'C', 'K', 'E', 'D']
  | .rdPhase => ['R', 'D', 'P', 'H', 'A', 'S', 'E']
  | .rdDuty => ['R', 'D', 'D', 'U', 'T', 'Y']
  | .rdTcr => ['R', 'D', 'T', 'C', 'R']
  | .rdStatus => ['R', 'D', 'S', 'T', 'A', 'T', 'U', 'S']
  | .off => ['O', 'F', 'F']

end Sys2Proof.Machine
end

