-- ==== Sys2Proof/Safety.lean ====
section
/-! DEFINITION. What counts as a good state and a good run (spec/60_exceptions.md R223,
spec/70_reset_and_hazards.md R249, R250), and the invariant of the block's states. -/

namespace Sys2Proof.Machine

/-- The five registers of the block and nothing else (R20). -/
structure Regs where
  tracked : Word10
  phase : Phase
  duty : Duty
  tcr : BitVec 8
  status : BitVec 5
  deriving DecidableEq, Repr

/-- The five registers of a state (R20). -/
def State.regs (s : State) : Regs where
  tracked := s.tracked
  phase := s.phase
  duty := s.duty
  tcr := s.tcr
  status := s.status

/-- The parts of the state no operation of the block may change: its configuration (R37), the host's
interrupt enable (R38) and the inputs still to come (R57). -/
def State.sameSurroundings (s t : State) : Prop :=
  t.percentCap = s.percentCap ∧ t.hostIntEnable = s.hostIntEnable ∧ t.inputs = s.inputs

/-- No answer of the environment was consumed: no conversion triggered, `ACQ_OK` not sampled (R222). -/
def State.sameDraws (s t : State) : Prop :=
  t.adcIn = s.adcIn ∧ t.conversions = s.conversions ∧ t.acqIn = s.acqIn ∧ t.acqSamples = s.acqSamples

/-- A good state: no fault is recorded (R223, R250). -/
def State.good (s : State) : Prop := s.halted = false

/-- What holds of the block in every state a run reaches. -/
structure BlockInv (s : State) : Prop where
  /-- `TRACKED` is in 0 to 1022 (R41). -/
  tracked_le : s.tracked.toNat ≤ 1022
  /-- `HALTED = 1` exactly when a cause is recorded (R32). -/
  halted_iff_cause : s.halted = true ↔ s.cause ≠ 0
  /-- The codes 6 and 7 are never written (R32). -/
  cause_le : s.cause.toNat ≤ 5
  /-- In Configured, `PWM_EN = 1` and `INV = 1` (R42). -/
  configured_inverted : s.configured = true → s.pwmEn = true ∧ s.inv = true
  /-- In Uninitialized both are still 0: only `INIT` and reset write them (R28, R29). -/
  uninitialized_plain : s.configured = false → s.pwmEn = false ∧ s.inv = false
  /-- `irq_lock` is released between operations (R38). -/
  unlocked : s.irqLock = false
  /-- A halted block drives no result (R221, R222). -/
  halted_silent : s.halted = true → s.res = none

/-- The launch predicate of loop claims in its general form (R249): Configured, not halted,
`TRACKED <= 1022`. -/
def State.launched (s : State) : Prop :=
  s.configured = true ∧ s.halted = false ∧ s.tracked.toNat ≤ 1022

/-- The state in which the steady state begins, as R249 lists it. -/
def State.steadyStart (otherReset : BitVec 6) (s : State) : Prop :=
  s.tracked = 0 ∧ s.phase = 0 ∧ s.duty = 255#8 ∧ s.tcr = tcrWord otherReset true true ∧
    s.status = statusWord 0 false true

/-- The state a fault leaves (R212, R221): halted with the cause recorded, `CONFIGURED` as it was, no
result driven, `irq_lock` released, and nothing else of the state changed. -/
def State.afterFault (c : Cause) (s : State) : State :=
  { s with
    status := statusWord c.code true s.configured
    irqLock := false
    res := none
    trace := [] }

/-- The ditherer's sum does not fit the 8-bit duty (R210, R215): `base8 + entry = 256`. -/
def overflows (v : Word10) (phase : Phase) : Prop := v.toNat / 4 + ditherEntry (rem2 v) phase = 256

/-- The operand the ditherer gets in the next `ITER` (R190). -/
def State.iterOperand (s : State) : Word10 :=
  scale s.percentCap (gamma (hyst s.adcNext s.tracked))

/-- `c` is the fault an operation on a block that is not halted raises (R220, checks 3 to 5). -/
def raises (i : Instr) (c : Cause) (s : State) : Prop :=
  match i with
  | .init => (c = .reinit ∧ s.configured = true) ∨ (c = .acqFail ∧ s.configured = false ∧ s.acqNext = false)
  | .measure => c = .notConfigured ∧ s.configured = false
  | .setduty _ => c = .notConfigured ∧ s.configured = false
  | .dither v => c = .dutyOverflow ∧ overflows v s.phase
  | .iter => (c = .notConfigured ∧ s.configured = false) ∨
      (c = .dutyOverflow ∧ s.configured = true ∧ overflows s.iterOperand s.phase)
  | .rdreg i3 => c = .illegalCmd ∧ 5 ≤ i3.toNat
  | .hyst _ => False
  | .gamma _ => False
  | .scale _ => False

/-- `c` is the fault a word raises on a block that is not halted (R220, checks 2 to 5): decoding is checked
before the operation's own conditions. -/
def wordRaises (w : CmdWord) (c : Cause) (s : State) : Prop :=
  match decode w with
  | some i => raises i c s
  | none => c = .illegalCmd

/-- Commands only: the issuer's part of the inputs (R194). -/
def commands (ops : List Instr) : List Input := ops.map (fun i => .cmd (encode i))

/-- A good run: no state of it records a fault (R250). -/
def goodRun (n : Nat) (s : State) : Prop :=
  ∀ k, k ≤ n → ∃ t, Host.Core.run core k s = .next t ∧ t.good

end Sys2Proof.Machine
end

