-- ==== Sys2Proof/Certificates/Slice0/Obligations.lean ====
section
/-! DEFINITION. The statements about the block, from the numbered rules of spec/. A record update in a
conclusion names every field the operation changes; every other field of State is unchanged, which is the
operation's frame (the block has no memory). -/

open Sys2Proof Sys2Proof.Machine

/-! ## Encoding -/

/-- A few words of 95_test_vectors.md V-X, written out from R73, decode as listed there. -/
def Obligations.ListedWordsDecode : Prop :=
  decode 0x1000#16 = some .init ∧ decode 0x2000#16 = some .measure ∧
  decode 0x3069#16 = some (.hyst 105#10) ∧ decode 0x4200#16 = some (.gamma 512#10) ∧
  decode 0x53FF#16 = some (.scale 1023#10) ∧ decode 0x6332#16 = some (.dither 818#10) ∧
  decode 0x70CD#16 = some (.setduty 205#8) ∧ decode 0x8002#16 = some (.rdreg 2#3) ∧
  decode 0x9000#16 = some .iter ∧
  decode 0x0000#16 = none ∧ decode 0xFFFF#16 = none ∧ decode 0x1400#16 = none ∧
  decode 0x7100#16 = none ∧ decode 0x8005#16 = none ∧ decode 0x9001#16 = none

/-- R73: a word selects a row exactly when it matches the row under the row's mask (and, for `RDREG`, the
extra condition holds), and the operand is then the word's low bits (R72). -/
def Obligations.WordsSelectRowsByMatchAndMask : Prop :=
  ∀ w : CmdWord,
    (decode w = some .init ↔ w &&& 0xFFFF#16 = 0x1000#16) ∧
    (decode w = some .measure ↔ w &&& 0xFFFF#16 = 0x2000#16) ∧
    (decode w = some .iter ↔ w &&& 0xFFFF#16 = 0x9000#16) ∧
    (∀ raw, decode w = some (.hyst raw) ↔
      w &&& 0xFC00#16 = 0x3000#16 ∧ raw.toNat = w.toNat % 1024) ∧
    (∀ v, decode w = some (.gamma v) ↔ w &&& 0xFC00#16 = 0x4000#16 ∧ v.toNat = w.toNat % 1024) ∧
    (∀ v, decode w = some (.scale v) ↔ w &&& 0xFC00#16 = 0x5000#16 ∧ v.toNat = w.toNat % 1024) ∧
    (∀ v, decode w = some (.dither v) ↔ w &&& 0xFC00#16 = 0x6000#16 ∧ v.toNat = w.toNat % 1024) ∧
    (∀ d, decode w = some (.setduty d) ↔ w &&& 0xFF00#16 = 0x7000#16 ∧ d.toNat = w.toNat % 256) ∧
    (∀ i, decode w = some (.rdreg i) ↔
      w &&& 0xFFF8#16 = 0x8000#16 ∧ i.toNat = w.toNat % 8 ∧ w.toNat % 8 ≤ 4)

/-- R80: the words `encode` gives, and that decoding and encoding are inverse of each other on well-formed
operations and legal words. -/
def Obligations.DecodeAndEncodeAreInverse : Prop :=
  (encode .init = 0x1000#16 ∧ encode .measure = 0x2000#16 ∧ encode .iter = 0x9000#16 ∧
    (∀ raw, (encode (.hyst raw)).toNat = 0x3000 + raw.toNat) ∧
    (∀ v, (encode (.gamma v)).toNat = 0x4000 + v.toNat) ∧
    (∀ v, (encode (.scale v)).toNat = 0x5000 + v.toNat) ∧
    (∀ v, (encode (.dither v)).toNat = 0x6000 + v.toNat) ∧
    (∀ d, (encode (.setduty d)).toNat = 0x7000 + d.toNat) ∧
    (∀ i, (encode (.rdreg i)).toNat = 0x8000 + i.toNat)) ∧
  (∀ i : Instr, i.wellFormed = true → decode (encode i) = some i) ∧
  (∀ (w : CmdWord) (i : Instr), decode w = some i → encode i = w ∧ i.wellFormed = true)

/-- R74: the illegal words are exactly the listed ones. -/
def Obligations.IllegalWordsAreTheListedOnes : Prop :=
  ∀ w : CmdWord, decode w = none ↔
    (w.toNat / 4096 = 0 ∨ 10 ≤ w.toNat / 4096) ∨
    w.toNat / 1024 % 4 ≠ 0 ∨
    ((w.toNat / 4096 = 1 ∨ w.toNat / 4096 = 2 ∨ w.toNat / 4096 = 9) ∧ w.toNat % 1024 ≠ 0) ∨
    (w.toNat / 4096 = 7 ∧ w.toNat % 1024 / 256 ≠ 0) ∨
    (w.toNat / 4096 = 8 ∧ (w.toNat % 1024 / 8 ≠ 0 ∨ 5 ≤ w.toNat % 8))

/-- R74: of the 65536 words 4360 are legal. -/
def Obligations.LegalWordsNumber4360 : Prop :=
  (List.range 65536).countP (fun n => (decode (BitVec.ofNat 16 n)).isSome) = 4360

/-- The step runs the decoded operation: where the next input is a word that decodes to `i`, the step is
`exec i` in the state with that input taken off; the step of a state with a table word presented is `exec` of
the table word's operation. -/
def Obligations.StepRunsTheDecodedOperation : Prop :=
  (∀ (s : State) (w : CmdWord) (i : Instr) (rest : List Input),
    s.inputs = .cmd w :: rest → decode w = some i → step s = exec i { s with inputs := rest }) ∧
  (∀ (s : State) (i : Instr), i.wellFormed = true →
    decodeTableWord 16 (encode i).toNat = some i ∧
    step (s.withFetchWord 16 (encode i).toNat) = exec i s)

/-! ## hysteresis_filter -/

/-- R101: `MEASURE` on a Configured block takes one draw of the ADC, any value, and drives it; nothing else
changes. On an Uninitialized block it faults before a conversion is triggered. -/
def Obligations.MeasureReturnsOneDraw : Prop :=
  (∀ s : State, s.halted = false → s.configured = true →
    exec .measure s = .next { s with
      res := some s.adcNext, trace := []
      adcIn := s.adcIn.tail, conversions := s.conversions + 1 }) ∧
  (∀ (s : State) (v : Word10) (rest : List Word10), s.halted = false → s.configured = true →
    s.adcIn = v :: rest → ∃ t, exec .measure s = .next t ∧ t.res = some v ∧ t.regs = s.regs) ∧
  (∀ s : State, s.halted = false → s.configured = false →
    exec .measure s = .next (s.afterFault .notConfigured)) ∧
  encode .measure = 0x2000#16

/-- R103: the three clauses in their order, with the saturating addition of R11. -/
def Obligations.HystFollowsItsThreeClauses : Prop :=
  ∀ raw previous : Word10,
    (hyst raw previous).toNat =
      if raw.toNat > min (previous.toNat + 1) 1023 then raw.toNat - 1
      else if raw.toNat < previous.toNat then raw.toNat
      else previous.toNat

/-- R105 and R106: on 10-bit values the saturation is not observable, and the source's three cases
determine the function. -/
def Obligations.HystEqualsItsUnsaturatedForm : Prop :=
  ∀ raw previous : Word10,
    ((hyst raw previous).toNat =
      if raw.toNat > previous.toNat + 1 then raw.toNat - 1
      else if raw.toNat < previous.toNat then raw.toNat
      else previous.toNat) ∧
    (raw.toNat = previous.toNat ∨ raw.toNat = previous.toNat + 1 → hyst raw previous = previous) ∧
    (raw.toNat > previous.toNat + 1 →
      (hyst raw previous).toNat = raw.toNat - 1 ∧ 2 ≤ raw.toNat) ∧
    (raw.toNat < previous.toNat → hyst raw previous = raw)

/-- R104: `HYST raw10` writes `hyst(raw, TRACKED)` into `TRACKED` and drives it, Configured or not; nothing
else changes. -/
def Obligations.HystUpdatesTracked : Prop :=
  (∀ (s : State) (raw : Word10), s.halted = false →
    exec (.hyst raw) s = .next { s with
      tracked := hyst raw s.tracked, res := some (hyst raw s.tracked), trace := [] }) ∧
  (∀ raw : Word10, (encode (.hyst raw)).toNat = 0x3000 + raw.toNat)

/-- R40: after `HYST raw` the tracker is `raw` or `raw - 1`, and 0 when `raw` is 0. -/
def Obligations.TrackerFollowsTheSample : Prop :=
  ∀ (s : State) (raw : Word10), s.halted = false →
    ∃ t, exec (.hyst raw) s = .next t ∧
      (1 ≤ raw.toNat → raw.toNat - 1 ≤ t.tracked.toNat ∧ t.tracked.toNat ≤ raw.toNat) ∧
      (raw.toNat = 0 → t.tracked.toNat = 0)

/-- R108: on a steady input the tracker settles in one step: after any number of further `HYST r` it holds
what the first one gave. -/
def Obligations.SteadyInputSettlesInOneStep : Prop :=
  ∀ (s : State) (r : Word10) (n : Nat) (rest : List Input), s.halted = false →
    s.inputs = commands (List.replicate (n + 1) (.hyst r)) ++ rest →
    ∃ t, Host.Core.run core (n + 1) s = .next t ∧ t.tracked = hyst r s.tracked ∧
      (t.tracked = r ∨ t.tracked.toNat + 1 = r.toNat) ∧ t.inputs = rest

/-- R107 and R108: a tracker at `r` is untouched by samples that alternate between `r` and `r + 1`; a sample
`r - 1` moves it down to `r - 1`, where samples alternating between `r` and `r - 1` leave it. -/
def Obligations.HystIsAsymmetric : Prop :=
  ∀ r up : Word10, up.toNat = r.toNat + 1 →
    hyst r r = r ∧ hyst up r = r ∧ hyst r up = r

/-! ## gamma_corrector_scaler -/

/-- R121: `GAMMA v10` drives the square over 1023, clamped, in every state that is not halted; no register
changes. -/
def Obligations.GammaDrivesTheFloorOfTheSquare : Prop :=
  (∀ (s : State) (v : Word10), s.halted = false →
    ∃ r : Word10, exec (.gamma v) s = .next { s with res := some r, trace := [] } ∧
      r.toNat = min (max (v.toNat * v.toNat / 1023) 0) 1023) ∧
  (∀ v : Word10, (encode (.gamma v)).toNat = 0x4000 + v.toNat)

/-- R124: the source's properties of the gamma correction. -/
def Obligations.GammaIsMonotonicAndBounded : Prop :=
  gamma 0#10 = 0#10 ∧ gamma 1023#10 = 1023#10 ∧
  (∀ v w : Word10, v.toNat ≤ w.toNat → (gamma v).toNat ≤ (gamma w).toNat) ∧
  (∀ v : Word10, (gamma v).toNat ≤ 1023 ∧ (gamma v).toNat ≤ v.toNat ∧
    (gamma v = v ↔ v = 0#10 ∨ v = 1023#10))

/-- R125: `SCALE v10` drives `floor(v × PERCENT_CAP / 100)` in every state that is not halted; no register
changes. -/
def Obligations.ScaleDrivesTheCappedValue : Prop :=
  (∀ (s : State) (v : Word10), s.halted = false →
    ∃ r : Word10, exec (.scale v) s = .next { s with res := some r, trace := [] } ∧
      r.toNat = v.toNat * s.percentCap.val / 100) ∧
  (∀ v : Word10, (encode (.scale v)).toNat = 0x5000 + v.toNat)

/-- R127: the source's properties of the power cap, and its monotonicity in both arguments. -/
def Obligations.ScaleIsMonotonicAndBounded : Prop :=
  (∀ v : Word10, scale 100 v = v ∧ scale 0 v = 0#10) ∧
  (∀ (cap : Config.Cap) (v : Word10), (scale cap v).toNat ≤ v.toNat) ∧
  (∀ (cap : Config.Cap) (v w : Word10), v.toNat ≤ w.toNat →
    (scale cap v).toNat ≤ (scale cap w).toNat) ∧
  (∀ (cap cap' : Config.Cap) (v : Word10), cap.val ≤ cap'.val →
    (scale cap v).toNat ≤ (scale cap' v).toNat)

/-- R128: the bounds of PowerCapped, for any operand and for a tracked value of at most 1022, and that the
order of the two functions matters. -/
def Obligations.PowerCappedIsBounded : Prop :=
  (∀ (cap : Config.Cap) (v : Word10), (scale cap (gamma v)).toNat ≤ 1023 * cap.val / 100) ∧
  (∀ (cap : Config.Cap) (v : Word10), v.toNat ≤ 1022 →
    (scale cap (gamma v)).toNat ≤ 1021 * cap.val / 100) ∧
  scale 80 (gamma 1022#10) = 816#10 ∧ gamma (scale 80 1022#10) = 652#10

/-! ## dither_sequencer -/

/-- R140: the pattern table as the Boolean function the rule gives, and that row `r` holds exactly `r`
ones. -/
def Obligations.DitherTableIsThePattern : Prop :=
  (∀ (r : BitVec 2) (p : Phase), ditherEntry r p =
    if (p.toNat = 0 ∧ 1 ≤ r.toNat) ∨ (p.toNat = 1 ∧ r.toNat = 3) ∨ (p.toNat = 2 ∧ 2 ≤ r.toNat)
    then 1 else 0) ∧
  (∀ r : BitVec 2,
    ditherEntry r 0 + ditherEntry r 1 + ditherEntry r 2 + ditherEntry r 3 = r.toNat)

/-- R144: `DITHER v10`, Configured or not: where the sum fits 8 bits it is driven and the phase advances;
where it is 256 the block faults with `DUTY_OVERFLOW` and the phase stays. Nothing else changes. -/
def Obligations.DitherProducesOneFrame : Prop :=
  (∀ (s : State) (v : Word10) (r : BitVec 2) (sum : Nat), s.halted = false →
    r.toNat = v.toNat % 4 → sum = v.toNat / 4 + ditherEntry r s.phase → sum ≤ 255 →
    exec (.dither v) s = .next { s with
      phase := BitVec.ofNat 2 ((s.phase.toNat + 1) % 4)
      res := some (BitVec.ofNat 10 sum), trace := [] }) ∧
  (∀ (s : State) (v : Word10) (r : BitVec 2), s.halted = false →
    r.toNat = v.toNat % 4 → v.toNat / 4 + ditherEntry r s.phase > 255 →
    exec (.dither v) s = .next (s.afterFault .dutyOverflow)) ∧
  (∀ v : Word10, (encode (.dither v)).toNat = 0x6000 + v.toNat)

/-- R144: `DITHER` faults for exactly the six listed pairs of operand and phase. -/
def Obligations.DitherOverflowsForSixPairs : Prop :=
  ∀ (s : State) (v : Word10), s.halted = false →
    ∃ t, exec (.dither v) s = .next t ∧
      (t.halted = true ↔ (v.toNat, s.phase.toNat) ∈
        [(1021, 0), (1022, 0), (1022, 2), (1023, 0), (1023, 1), (1023, 2)])

/-- R147 and R148: four consecutive `DITHER v` with one `v` of at most 1020, from any phase, give four duties
whose sum is `v`, and the five registers are as before; with a `v` above 1020 one of the four faults. -/
def Obligations.FourFramesReconstructTheValue : Prop :=
  (∀ (s : State) (v : Word10), s.halted = false → v.toNat ≤ 1020 →
    ∃ (t1 t2 t3 t4 : State) (a b c d : Duty),
      exec (.dither v) s = .next t1 ∧ t1.res = some (a.setWidth 10) ∧
      exec (.dither v) t1 = .next t2 ∧ t2.res = some (b.setWidth 10) ∧
      exec (.dither v) t2 = .next t3 ∧ t3.res = some (c.setWidth 10) ∧
      exec (.dither v) t3 = .next t4 ∧ t4.res = some (d.setWidth 10) ∧
      a.toNat + b.toNat + c.toNat + d.toNat = v.toNat ∧ t4.regs = s.regs) ∧
  (∀ (s : State) (v : Word10) (rest : List Input), s.halted = false → 1021 ≤ v.toNat →
    s.inputs = commands (List.replicate 4 (.dither v)) ++ rest →
    ∃ t, Host.Core.run core 4 s = .next t ∧ t.halted = true ∧
      t.cause = Cause.dutyOverflow.code)

/-- R145: after `n` non-faulting `DITHER` operations the phase has advanced by `n` modulo 4, whatever the
operands. -/
def Obligations.PhaseCountsFrames : Prop :=
  ∀ (s : State) (vs : List Word10) (rest : List Input), s.halted = false →
    (∀ v ∈ vs, v.toNat ≤ 1020) → s.inputs = commands (vs.map Instr.dither) ++ rest →
    ∃ t, Host.Core.run core vs.length s = .next t ∧ t.good ∧
      t.phase.toNat = (s.phase.toNat + vs.length) % 4 ∧ t.inputs = rest

/-! ## inverted_pwm_driver -/

/-- R161: a successful `INIT`: `PWM_EN = 1`, `INV = 1`, `OTHER` as before, `DUTY = 255`, Configured, `irq_lock`
released, no result; what it showed on the way are the four moments of its sub-steps, the model's own record
(log 6), with the `OTHER` from before `INIT` in each by the model's choice (log 7). `ACQ_OK` is sampled
once. Nothing else changes. -/
def Obligations.InitConfiguresTheChannel : Prop :=
  (∀ s : State, s.halted = false → s.configured = false → s.acqNext = true →
    ∃ m1 m2 m3 m4 : Moment,
      exec .init s = .next { s with
        tcr := tcrWord s.other true true, duty := 255#8
        status := statusWord s.cause false true, irqLock := false
        res := none, trace := [m1, m2, m3, m4]
        acqIn := s.acqIn.tail, acqSamples := s.acqSamples + 1 } ∧
      m1 = ⟨s.tracked, s.phase, s.duty, tcrWord s.other s.inv true, s.status, s.irqLock,
        s.handlerMayRun⟩ ∧
      m2 = { m1 with duty := 255#8 } ∧
      m3 = { m2 with irqLock := true, handlerMayRun := false } ∧
      m4 = { m3 with tcr := tcrWord s.other true true }) ∧
  encode .init = 0x1000#16

/-- R163: toward a handler of the host two intermediate states of `INIT` are visible, in this order, and no
handler runs while `irq_lock` is asserted (R218). That the second still shows the `OTHER` from before `INIT` is
the model's choice (log 7): U17 lets a handler that runs at the first change it. The moments are the model's
own record (log 6). -/
def Obligations.InitShowsTwoIntermediateStates : Prop :=
  ∀ s : State, BlockInv s → s.halted = false → s.configured = false → s.acqNext = true →
    s.hostIntEnable = true →
    ∃ t, exec .init s = .next t ∧
      (t.trace.filter (fun m => m.handlerMayRun)).map (fun m => (m.tcr, m.duty)) =
        [(tcrWord s.other false true, s.duty), (tcrWord s.other false true, 255#8)] ∧
      (∀ m ∈ t.trace, m.irqLock = true → m.handlerMayRun = false) ∧
      t.hostIntEnable = s.hostIntEnable ∧ t.irqLock = false

/-- R211 and R213: the two faults of `INIT` change nothing but `STATUS`; `REINIT` is checked before `ACQ_OK` is
sampled. -/
def Obligations.InitFaultsBeforeAnyWrite : Prop :=
  (∀ s : State, s.halted = false → s.configured = true →
    exec .init s = .next (s.afterFault .reinit)) ∧
  (∀ s : State, s.halted = false → s.configured = false → s.acqNext = false →
    exec .init s = .next { s.afterFault .acqFail with
      acqIn := s.acqIn.tail, acqSamples := s.acqSamples + 1 })

/-- R166: `SETDUTY d8` on a Configured block stores `255 - d8` and drives no result; on an Uninitialized block
it faults and `DUTY` is not written. Nothing else changes. -/
def Obligations.SetdutyStoresTheInvertedDuty : Prop :=
  (∀ (s : State) (d : Duty), s.halted = false → s.configured = true →
    ∃ v : Duty, exec (.setduty d) s = .next { s with duty := v, res := none, trace := [] } ∧
      v.toNat = 255 - d.toNat) ∧
  (∀ (s : State) (d : Duty), s.halted = false → s.configured = false →
    exec (.setduty d) s = .next (s.afterFault .notConfigured)) ∧
  (∀ d : Duty, (encode (.setduty d)).toNat = 0x7000 + d.toNat) ∧
  (∀ w : CmdWord, 0x7100 ≤ w.toNat → w.toNat ≤ 0x73FF → decode w = none)

/-- R167: `SETDUTY d` followed by reading the duty register yields `255 - d`; the inversion is its own inverse
and is the bitwise complement. -/
def Obligations.InversionIsItsOwnInverse : Prop :=
  (∀ (s : State) (d : Duty), s.halted = false → s.configured = true →
    ∃ t u, exec (.setduty d) s = .next t ∧ exec (.rdreg 2#3) t = .next u ∧
      u.res = some (BitVec.ofNat 10 (255 - d.toNat))) ∧
  (∀ d : Duty, invert (invert d) = d ∧ invert d = ~~~d ∧ (invert d).toNat = 255 - d.toNat)

/-- R170: `RDREG i3` drives the indexed register, zero-extended, Configured or not, and changes no register. -/
def Obligations.RdregReadsTheRegisterSpace : Prop :=
  (∀ (s : State) (i : RegIndex), s.halted = false → i.toNat ≤ 4 →
    ∃ r : Word10, exec (.rdreg i) s = .next { s with res := some r, trace := [] } ∧
      (i.toNat = 0 → r = s.tracked) ∧
      (i.toNat = 1 → r.toNat = s.phase.toNat) ∧
      (i.toNat = 2 → r.toNat = s.duty.toNat) ∧
      (i.toNat = 3 → r.toNat = s.tcr.toNat) ∧
      (i.toNat = 4 → r.toNat = s.status.toNat)) ∧
  (∀ i : RegIndex, (encode (.rdreg i)).toNat = 0x8000 + i.toNat) ∧
  (∀ w : CmdWord, 0x8005 ≤ w.toNat → w.toNat ≤ 0x83FF → decode w = none)

/-- R170: on a block that is not halted `RDREG 4` can return nothing but 0 (Uninitialized) or 1 (Configured). -/
def Obligations.StatusReadsAsTheDriverState : Prop :=
  ∀ s : State, BlockInv s → s.halted = false →
    ∃ t, exec (.rdreg 4#3) s = .next t ∧
      t.res = some (if s.configured then 1#10 else 0#10)

/-- R35: an unimplemented index faults with `ILLEGAL_CMD`; no word decodes to such a `RDREG`. -/
def Obligations.RdregOfUnimplementedIndexFaults : Prop :=
  (∀ (s : State) (i : RegIndex), s.halted = false → 5 ≤ i.toNat →
    exec (.rdreg i) s = .next (s.afterFault .illegalCmd)) ∧
  (∀ (w : CmdWord) (i : RegIndex), 5 ≤ i.toNat → decode w ≠ some (.rdreg i))

/-! ## Control loop -/

/-- R190: `ITER`, its six stages in order, on the value `s.adcNext` the ADC answers. Where the sum fits, `TRACKED`,
`PHASE`, `DUTY` and the result are written; where it does not, `TRACKED` is written and the block faults
(R192); on an Uninitialized block it faults before any stage. Nothing else changes. -/
def Obligations.IterRunsItsSixStages : Prop :=
  (∀ (s : State) (t10 c10 : Word10) (r : BitVec 2) (sum : Nat),
    s.halted = false → s.configured = true →
    t10 = hyst s.adcNext s.tracked → c10 = scale s.percentCap (gamma t10) →
    r.toNat = c10.toNat % 4 → sum = c10.toNat / 4 + ditherEntry r s.phase →
    (sum ≤ 255 →
      exec .iter s = .next { s with
        tracked := t10, phase := BitVec.ofNat 2 ((s.phase.toNat + 1) % 4)
        duty := BitVec.ofNat 8 (255 - sum), res := some (BitVec.ofNat 10 sum), trace := []
        adcIn := s.adcIn.tail, conversions := s.conversions + 1 }) ∧
    (255 < sum →
      exec .iter s = .next { s.afterFault .dutyOverflow with
        tracked := t10, adcIn := s.adcIn.tail, conversions := s.conversions + 1 })) ∧
  (∀ s : State, s.halted = false → s.configured = false →
    exec .iter s = .next (s.afterFault .notConfigured)) ∧
  encode .iter = 0x9000#16

/-- R191: on a Configured block that is not halted `ITER` is the sequence `MEASURE`, `HYST r`, `GAMMA t`, `SCALE g`,
`DITHER c`, `SETDUTY d` of stand-alone operations, each taking the result of the one before: the same five
registers, draws and final result; and where the ditherer faults, the same state as the sequence up to it. -/
def Obligations.IterEqualsTheSixOperations : Prop :=
  ∀ s : State, s.halted = false → s.configured = true →
    ∃ (s1 s2 s3 s4 s5 : State) (r t g c : Word10),
      exec .measure s = .next s1 ∧ s1.res = some r ∧
      exec (.hyst r) s1 = .next s2 ∧ s2.res = some t ∧
      exec (.gamma t) s2 = .next s3 ∧ s3.res = some g ∧
      exec (.scale g) s3 = .next s4 ∧ s4.res = some c ∧
      exec (.dither c) s4 = .next s5 ∧
      ((∃ (d : Duty) (s6 : State), s5.halted = false ∧ s5.res = some (d.setWidth 10) ∧
          exec (.setduty d) s5 = .next s6 ∧ exec .iter s = .next { s6 with res := s5.res }) ∨
        (s5.halted = true ∧ s5.cause = Cause.dutyOverflow.code ∧ s5.res = none ∧
          exec .iter s = .next s5))

/-- R193: for a Configured block with a cap of at most 99, `ITER` cannot fault and is the total function the
rule gives, with `TCR` and `STATUS` unchanged. -/
def Obligations.IterIsTotalBelowFullCap : Prop :=
  ∀ s : State, s.halted = false → s.configured = true → s.percentCap.val ≤ 99 →
    ∃ t, exec .iter s = .next t ∧ t.halted = false ∧
      t.tracked = hyst s.adcNext s.tracked ∧
      t.phase.toNat = (s.phase.toNat + 1) % 4 ∧
      t.duty.toNat = 255 - (s.iterOperand.toNat / 4 + ditherEntry (rem2 s.iterOperand) s.phase) ∧
      t.tcr = s.tcr ∧ t.status = s.status

/-- R149 and R253: with `TRACKED` at most 1022, `ITER` faults exactly where the cap is 100 and the updated
tracker 1022 meets phase 0. -/
def Obligations.IterOverflowsOnlyAtFullCap : Prop :=
  ∀ s : State, s.launched →
    ∃ t, exec .iter s = .next t ∧
      (t.halted = true ↔
        s.percentCap.val = 100 ∧ (hyst s.adcNext s.tracked).toNat = 1022 ∧ s.phase.toNat = 0)

/-- 95_test_vectors.md S7, at every cap: an iteration with the tracker at 0 and the ADC answering 0 gives
application duty 0, so the duty register holds 255. -/
def Obligations.PotentiometerAtZeroKeepsTheLampOff : Prop :=
  ∀ s : State, s.halted = false → s.configured = true → s.tracked = 0#10 → s.adcNext = 0#10 →
    ∃ t, exec .iter s = .next t ∧ t.res = some 0#10 ∧ t.duty = 255#8 ∧ t.tracked = 0#10

/-- R194 with R253: from a launched state with a cap of at most 99, `n` iterations in a row never fault,
whatever the ADC answers: one conversion each, the phase in lock-step, the block still launched. -/
def Obligations.LoopNeverFaultsBelowFullCap : Prop :=
  ∀ (n : Nat) (s : State) (rest : List Input), s.launched → s.percentCap.val ≤ 99 →
    s.inputs = commands (List.replicate n .iter) ++ rest →
    goodRun n s ∧
      ∃ t, Host.Core.run core n s = .next t ∧ t.launched ∧
        t.phase.toNat = (s.phase.toNat + n) % 4 ∧ t.conversions = s.conversions + n ∧
        t.tcr = s.tcr ∧ t.inputs = rest

/-! ## Faults and the halt -/

/-- R216: a word that selects no operation raises `ILLEGAL_CMD` on a block that is not halted, and no register
but `STATUS` changes. -/
def Obligations.IllegalWordFaults : Prop :=
  ∀ (s : State) (w : CmdWord) (rest : List Input), s.halted = false → s.inputs = .cmd w :: rest →
    decode w = none → step s = .next (State.afterFault .illegalCmd { s with inputs := rest })

/-- R222: a halted block ignores every command word, legal or not: no register changes, no conversion is
triggered, no result is driven and the outputs keep their values; no step but a reset leaves Halted. -/
def Obligations.HaltedBlockIsInert : Prop :=
  (∀ (s : State) (w : CmdWord) (rest : List Input), s.halted = true → s.inputs = .cmd w :: rest →
    ∃ t, step s = .next t ∧ t = { s with inputs := rest, res := none, trace := [] } ∧
      t.pins = s.pins) ∧
  (∀ s : State, s.halted = true → (∀ a d o, s.inputs.head? ≠ some (.rst a d o)) →
    ∃ t, step s = .next t ∧ t.halted = true ∧ t.status = s.status)

/-- R222 for every operation, the form the stand-alone meanings take. -/
def Obligations.HaltedBlockIgnoresEveryOperation : Prop :=
  ∀ (s : State) (i : Instr), s.halted = true →
    exec i s = .next { s with res := none, trace := [] }

/-- R220: at most one fault per command, and the order of the checks: a halted block ignores the word; a word
on a block that is not halted halts it exactly where one of the listed conditions holds, with the code of the
first one; a reset request ends any state. -/
def Obligations.FaultChecksInFixedOrder : Prop :=
  (∀ (s : State) (w : CmdWord) (rest : List Input), s.halted = true → s.inputs = .cmd w :: rest →
    ∃ t, step s = .next t ∧ t.regs = s.regs) ∧
  (∀ (s : State) (w : CmdWord) (rest : List Input), s.halted = false → s.inputs = .cmd w :: rest →
    ∃ t, step s = .next t ∧
      (∀ c, wordRaises w c s → t.halted = true ∧ t.cause = c.code ∧ t.res = none) ∧
      (t.halted = true → ∃ c, wordRaises w c s)) ∧
  (∀ (s : State) (during : Option Abandoned) (d : Duty) (o : BitVec 6) (rest : List Input),
    s.inputs = .rst during d o :: rest →
    ∃ t, step s = .next t ∧ t.halted = false ∧ t.configured = false)

/-- R210: the codes of the five causes, and that where an operation or a word faults, the code recorded is that
of a cause the rule lists for it. -/
def Obligations.CausesHaveTheirCodes : Prop :=
  (Cause.acqFail.code.toNat = 1 ∧ Cause.reinit.code.toNat = 2 ∧ Cause.notConfigured.code.toNat = 3 ∧
    Cause.dutyOverflow.code.toNat = 4 ∧ Cause.illegalCmd.code.toNat = 5) ∧
  (∀ (s t : State) (i : Instr), s.halted = false → exec i s = .next t → t.halted = true →
    ∃ c, raises i c s ∧ t.cause = c.code) ∧
  (∀ (s t : State) (w : CmdWord) (rest : List Input), s.halted = false → s.inputs = .cmd w :: rest →
    step s = .next t → t.halted = true → ∃ c, wordRaises w c s ∧ t.cause = c.code)

/-- R221 and R192: what a fault leaves, whichever operation raised it: `HALTED` set and the cause recorded,
`CONFIGURED`, `PHASE`, `DUTY` and `TCR` as they were, `irq_lock` released, no result; `TRACKED` as it was too,
unless the operation is `ITER`. -/
def Obligations.FaultLeavesTheRegisters : Prop :=
  ∀ (s t : State) (i : Instr), s.halted = false → exec i s = .next t → t.halted = true →
    (∃ c, raises i c s ∧ t.status = statusWord c.code true s.configured) ∧
    t.phase = s.phase ∧ t.duty = s.duty ∧ t.tcr = s.tcr ∧
    t.irqLock = false ∧ t.res = none ∧ (i ≠ .iter → t.tracked = s.tracked)

/-- R224: nothing but a reset request leaves Halted or clears the cause, and that restores the reset state. -/
def Obligations.OnlyResetLeavesHalted : Prop :=
  ∀ s t : State, s.halted = true → step s = .next t →
    (t.halted = true ∧ t.status = s.status) ∨
      ∃ a d o, s.inputs.head? = some (.rst a d o) ∧
        t.regs = ⟨0#10, 0#2, d, tcrWord o false false, 0#5⟩

/-- R164: nothing but a reset request returns the driver to Uninitialized. -/
def Obligations.OnlyResetLeavesConfigured : Prop :=
  ∀ s t : State, s.configured = true → step s = .next t →
    t.configured = true ∨ ∃ a d o, s.inputs.head? = some (.rst a d o)

/-! ## Frames over all operations -/

/-- R23: which operation writes which register: each line of the rule's table. The configuration, the host's
interrupt enable and the inputs to come are written by none. -/
def Obligations.OperationsWriteOnlyTheirRegisters : Prop :=
  ∀ (s t : State) (i : Instr), exec i s = .next t →
    (t.tracked = s.tracked ∨ i = .iter ∨ ∃ raw, i = .hyst raw) ∧
    (t.phase = s.phase ∨ i = .iter ∨ ∃ v, i = .dither v) ∧
    (t.duty = s.duty ∨ i = .iter ∨ i = .init ∨ ∃ d, i = .setduty d) ∧
    (t.tcr = s.tcr ∨ i = .init) ∧
    (t.status = s.status ∨ i = .init ∨ (t.halted = true ∧ s.halted = false)) ∧
    s.sameSurroundings t

/-- R101, R162 and R214: a conversion is triggered exactly by `MEASURE` and `ITER` on a Configured block that is
not halted, and `ACQ_OK` is sampled exactly by `INIT` on an Uninitialized one. -/
def Obligations.DrawsHappenExactlyOnce : Prop :=
  ∀ (s t : State) (i : Instr), exec i s = .next t →
    ((s.halted = false ∧ s.configured = true ∧ (i = .measure ∨ i = .iter)) →
      t.conversions = s.conversions + 1 ∧ t.adcIn = s.adcIn.tail) ∧
    ((s.halted = false ∧ s.configured = false ∧ i = .init) →
      t.acqSamples = s.acqSamples + 1 ∧ t.acqIn = s.acqIn.tail) ∧
    (¬ (s.halted = false ∧ s.configured = true ∧ (i = .measure ∨ i = .iter)) →
      t.conversions = s.conversions ∧ t.adcIn = s.adcIn) ∧
    (¬ (s.halted = false ∧ s.configured = false ∧ i = .init) →
      t.acqSamples = s.acqSamples ∧ t.acqIn = s.acqIn)

/-- R30: no command changes `TCR.OTHER`: a step changes it only where the host or a reset request does. -/
def Obligations.OtherTimerBitsArePreserved : Prop :=
  ∀ s t : State, step s = .next t →
    t.other = s.other ∨ (∃ a d o, s.inputs.head? = some (.rst a d o)) ∨
      ∃ o, s.inputs.head? = some (.hostTimerBits o)

/-- R30 and R193: no operation but `RDREG` lets the old `DUTY` or `TCR.OTHER` be seen: two states that differ in
those alone give the same result, tracker, phase and `STATUS`, and a `DUTY` that differs only where the operation
writes none. -/
def Obligations.OldDutyAndOtherBitsAreNotSeen : Prop :=
  ∀ (s t t' : State) (i : Instr) (d : Duty) (o : BitVec 6), (∀ i3, i ≠ .rdreg i3) →
    exec i s = .next t → exec i (State.setOther o { s with duty := d }) = .next t' →
    t'.res = t.res ∧ t'.tracked = t.tracked ∧ t'.phase = t.phase ∧ t'.status = t.status ∧
    t'.pwmEn = t.pwmEn ∧ t'.inv = t.inv ∧ t'.other = o ∧
    (t'.duty = t.duty ∨ (t.duty = s.duty ∧ t'.duty = d))

/-- R7 and R37: the power cap is constant for the lifetime of the block: no step changes it, a reset included. -/
def Obligations.PowerCapIsConstant : Prop :=
  ∀ (n : Nat) (s t : State), Host.Core.run core n s = .next t → t.percentCap = s.percentCap

/-- R261: no operation and no input can block: a step always answers a next state. -/
def Obligations.StepAlwaysAnswers : Prop :=
  (∀ (s : State) (i : Instr), ∃ t, exec i s = .next t) ∧ ∀ s : State, ∃ t, step s = .next t

/-- The model's own conventions at the ports (logs 5, 6 and 7): with nothing presented only the last result and
record are gone, and the host's two inputs change `TCR.OTHER` and its interrupt enable alone. And R39, last
clause: `RES` holds nothing afterwards and is the step's return value, so a step answers the same whatever
result and record the state carries, and `stepReturning` answers a state that holds none, from which the run goes on the same. -/
def Obligations.IdleAndHostInputsTouchNothingElse : Prop :=
  (∀ s : State, s.inputs = [] → step s = .next { s with res := none, trace := [] }) ∧
  (∀ (s : State) (o : BitVec 6) (rest : List Input), s.inputs = .hostTimerBits o :: rest →
    step s = .next { s with
      inputs := rest, res := none, trace := [], tcr := tcrWord o s.inv s.pwmEn }) ∧
  (∀ (s : State) (on : Bool) (rest : List Input), s.inputs = .hostIntEnable on :: rest →
    step s = .next { s with inputs := rest, res := none, trace := [], hostIntEnable := on }) ∧
  (∀ (s : State) (r : Option Word10) (m : List Moment),
    step { s with res := r, trace := m } = step s ∧
    ∃ t, step s = .next t ∧ stepReturning s = .next ({ t with res := none }, t.res) ∧
      step { t with res := none } = step t)

/-! ## Reset, start-up and invariants -/

/-- R240 and R43: a reset request puts every register and output at its reset value, from any state, Halted
included, with any `DUTY_RESET` and `TCR_OTHER_RESET`, whether or not it lands inside an operation; and an
operation in progress is abandoned: what its complete sub-steps showed or drew stays, the others never
happen. After the first sub-step of `INIT` one intermediate state was visible, after the second both (R163);
an abandoned `MEASURE` or `ITER` has triggered its conversion or not. A halted block has no operation in
progress (R222). Where a reset may land is the model's choice (log 11), the moments and the counter are its
record (logs 3 and 6), and the `OTHER` they show rests on log 7. -/
def Obligations.ResetRestoresEveryRegister : Prop :=
  (∀ (s : State) (during : Option Abandoned) (d : Duty) (o : BitVec 6) (rest : List Input),
    s.inputs = .rst during d o :: rest →
    ∃ t, step s = .next t ∧ t.regs = ⟨0#10, 0#2, d, tcrWord o false false, 0#5⟩ ∧
      t.irqLock = false ∧ t.res = none ∧ t.inputs = rest ∧
      t.percentCap = s.percentCap ∧ t.hostIntEnable = s.hostIntEnable) ∧
  (∀ (s : State) (during : Option Abandoned) (d : Duty) (o : BitVec 6) (rest : List Input),
    s.inputs = .rst during d o :: rest → during = none ∨ s.halted = true →
    step s = .next { s with
      tracked := 0#10, phase := 0#2, duty := d, tcr := tcrWord o false false, status := 0#5
      irqLock := false, res := none, trace := [], inputs := rest }) ∧
  (∀ (s : State) (n : Nat) (d : Duty) (o : BitVec 6) (rest : List Input),
    s.halted = false → s.configured = false → s.acqNext = true →
    s.inputs = .rst (some ⟨0x1000#16, n⟩) d o :: rest →
    ∃ (t : State) (m1 m2 : Moment), step s = .next t ∧
      m1 = ⟨s.tracked, s.phase, s.duty, tcrWord s.other s.inv true, s.status, s.irqLock,
        s.handlerMayRun⟩ ∧
      m2 = { m1 with duty := 255#8 } ∧
      (n ≤ 1 → t.trace = []) ∧ (n = 2 → t.trace = [m1]) ∧ (n = 3 → t.trace = [m1, m2]) ∧
      t.acqSamples = s.acqSamples + min n 1) ∧
  (∀ (s : State) (w : CmdWord) (n : Nat) (d : Duty) (o : BitVec 6) (rest : List Input),
    s.halted = false → s.configured = true → w = 0x2000#16 ∨ w = 0x9000#16 →
    s.inputs = .rst (some ⟨w, n⟩) d o :: rest →
    ∃ t, step s = .next t ∧ t.conversions = s.conversions + min n 1 ∧
      t.adcIn = s.adcIn.drop (min n 1) ∧ t.trace = [])

/-- R43: the state right after reset, for the values the rule gives. -/
def Obligations.ResetStateHasTheTableValues : Prop :=
  State.reset.tracked = 0#10 ∧ State.reset.phase = 0#2 ∧ State.reset.pwmEn = false ∧
  State.reset.inv = false ∧ State.reset.configured = false ∧ State.reset.halted = false ∧
  State.reset.cause = 0#3 ∧ State.reset.irqLock = false ∧ State.reset.res = none

/-- R249: after a reset request and a successful `INIT`, from any state whatever, the steady state begins as the
rule lists it, and the block is launched. -/
def Obligations.StartUpReachesTheSteadyState : Prop :=
  (∀ (s : State) (d : Duty) (o : BitVec 6) (rest : List Input),
    s.inputs = .rst none d o :: .cmd 0x1000#16 :: rest → s.acqNext = true →
    ∃ t, Host.Core.run core 2 s = .next t ∧ t.steadyStart o ∧ t.launched ∧ t.inputs = rest) ∧
  (∀ (s r : State) (a : Abandoned) (d : Duty) (o : BitVec 6) (rest : List Input),
    s.inputs = .rst (some a) d o :: .cmd 0x1000#16 :: rest → step s = .next r → r.acqNext = true →
    ∃ t, Host.Core.run core 2 s = .next t ∧ t.steadyStart o ∧ t.launched ∧ t.inputs = rest)

/-- The invariant of Safety.lean (R28, R32, R38, R41, R42, R222) is kept by every step. -/
def Obligations.StepKeepsTheInvariant : Prop :=
  ∀ s t : State, BlockInv s → step s = .next t → BlockInv t

/-- The invariant holds right after reset. -/
def Obligations.ResetMeetsTheInvariant : Prop := BlockInv State.reset

/-! ## Assembler text and configuration -/

/-- R78: the text of an operation with its operand in range assembles to the operation's word. -/
def Obligations.TextAssemblesToTheWord : Prop :=
  ∀ i : Instr, i.wellFormed = true → assembleLine (instrText i) = .word (encode i)

/-- R79: each pseudo-operation is an alias for exactly one command word. -/
def Obligations.PseudoOperationsAreAliases : Prop :=
  (∀ p : Pseudo, assembleLine (pseudoText p) = .word (encode p.expand)) ∧
  encode Pseudo.rdTracked.expand = 0x8000#16 ∧ encode Pseudo.rdPhase.expand = 0x8001#16 ∧
  encode Pseudo.rdDuty.expand = 0x8002#16 ∧ encode Pseudo.rdTcr.expand = 0x8003#16 ∧
  encode Pseudo.rdStatus.expand = 0x8004#16 ∧ encode Pseudo.off.expand = 0x7000#16

/-- R7: a cap of 0 to 100 is admitted as it is; a cap above 100 is refused. -/
def Obligations.CapsAbove100AreRefused : Prop :=
  ∀ n : Nat, (n ≤ 100 → ∃ cap : Config.Cap, admitCap n = .ok cap ∧ cap.val = n) ∧
    (100 < n → admitCap n = .error (.capAbove100 n))
end

