-- ==== Sys2Proof/Laws/State.lean ====
section
/-! SUPPORT. What each update of State does to each field, once: no later proof unfolds a record update. -/

namespace Sys2Proof.Machine

section
variable (s : State)

@[simp] theorem quiet_tracked : s.quiet.tracked = s.tracked := rfl
@[simp] theorem quiet_phase : s.quiet.phase = s.phase := rfl
@[simp] theorem quiet_duty : s.quiet.duty = s.duty := rfl
@[simp] theorem quiet_tcr : s.quiet.tcr = s.tcr := rfl
@[simp] theorem quiet_status : s.quiet.status = s.status := rfl
@[simp] theorem quiet_irqLock : s.quiet.irqLock = s.irqLock := rfl
@[simp] theorem quiet_res : s.quiet.res = none := rfl
@[simp] theorem quiet_hostIntEnable : s.quiet.hostIntEnable = s.hostIntEnable := rfl
@[simp] theorem quiet_percentCap : s.quiet.percentCap = s.percentCap := rfl
@[simp] theorem quiet_trace : s.quiet.trace = [] := rfl
@[simp] theorem quiet_inputs : s.quiet.inputs = s.inputs := rfl
@[simp] theorem quiet_adcIn : s.quiet.adcIn = s.adcIn := rfl
@[simp] theorem quiet_conversions : s.quiet.conversions = s.conversions := rfl
@[simp] theorem quiet_acqIn : s.quiet.acqIn = s.acqIn := rfl
@[simp] theorem quiet_acqSamples : s.quiet.acqSamples = s.acqSamples := rfl

@[simp] theorem withoutResult_res : s.withoutResult.res = none := rfl
@[simp] theorem withoutResult_tracked : s.withoutResult.tracked = s.tracked := rfl
@[simp] theorem withoutResult_phase : s.withoutResult.phase = s.phase := rfl
@[simp] theorem withoutResult_duty : s.withoutResult.duty = s.duty := rfl
@[simp] theorem withoutResult_tcr : s.withoutResult.tcr = s.tcr := rfl
@[simp] theorem withoutResult_status : s.withoutResult.status = s.status := rfl
@[simp] theorem withoutResult_irqLock : s.withoutResult.irqLock = s.irqLock := rfl
@[simp] theorem withoutResult_hostIntEnable : s.withoutResult.hostIntEnable = s.hostIntEnable := rfl
@[simp] theorem withoutResult_percentCap : s.withoutResult.percentCap = s.percentCap := rfl
@[simp] theorem withoutResult_trace : s.withoutResult.trace = s.trace := rfl
@[simp] theorem withoutResult_inputs : s.withoutResult.inputs = s.inputs := rfl
@[simp] theorem withoutResult_adcIn : s.withoutResult.adcIn = s.adcIn := rfl
@[simp] theorem withoutResult_conversions : s.withoutResult.conversions = s.conversions := rfl
@[simp] theorem withoutResult_acqIn : s.withoutResult.acqIn = s.acqIn := rfl
@[simp] theorem withoutResult_acqSamples : s.withoutResult.acqSamples = s.acqSamples := rfl

@[simp] theorem setTracked_tracked (v : Word10) : (s.setTracked v).tracked = v := rfl
@[simp] theorem setTracked_phase (v : Word10) : (s.setTracked v).phase = s.phase := rfl
@[simp] theorem setTracked_duty (v : Word10) : (s.setTracked v).duty = s.duty := rfl
@[simp] theorem setTracked_tcr (v : Word10) : (s.setTracked v).tcr = s.tcr := rfl
@[simp] theorem setTracked_status (v : Word10) : (s.setTracked v).status = s.status := rfl
@[simp] theorem setTracked_irqLock (v : Word10) : (s.setTracked v).irqLock = s.irqLock := rfl
@[simp] theorem setTracked_res (v : Word10) : (s.setTracked v).res = s.res := rfl
@[simp] theorem setTracked_hostIntEnable (v : Word10) : (s.setTracked v).hostIntEnable = s.hostIntEnable := rfl
@[simp] theorem setTracked_percentCap (v : Word10) : (s.setTracked v).percentCap = s.percentCap := rfl
@[simp] theorem setTracked_trace (v : Word10) : (s.setTracked v).trace = s.trace := rfl
@[simp] theorem setTracked_inputs (v : Word10) : (s.setTracked v).inputs = s.inputs := rfl
@[simp] theorem setTracked_adcIn (v : Word10) : (s.setTracked v).adcIn = s.adcIn := rfl
@[simp] theorem setTracked_conversions (v : Word10) : (s.setTracked v).conversions = s.conversions := rfl
@[simp] theorem setTracked_acqIn (v : Word10) : (s.setTracked v).acqIn = s.acqIn := rfl
@[simp] theorem setTracked_acqSamples (v : Word10) : (s.setTracked v).acqSamples = s.acqSamples := rfl

@[simp] theorem setPhase_tracked (v : Phase) : (s.setPhase v).tracked = s.tracked := rfl
@[simp] theorem setPhase_phase (v : Phase) : (s.setPhase v).phase = v := rfl
@[simp] theorem setPhase_duty (v : Phase) : (s.setPhase v).duty = s.duty := rfl
@[simp] theorem setPhase_tcr (v : Phase) : (s.setPhase v).tcr = s.tcr := rfl
@[simp] theorem setPhase_status (v : Phase) : (s.setPhase v).status = s.status := rfl
@[simp] theorem setPhase_irqLock (v : Phase) : (s.setPhase v).irqLock = s.irqLock := rfl
@[simp] theorem setPhase_res (v : Phase) : (s.setPhase v).res = s.res := rfl
@[simp] theorem setPhase_hostIntEnable (v : Phase) : (s.setPhase v).hostIntEnable = s.hostIntEnable := rfl
@[simp] theorem setPhase_percentCap (v : Phase) : (s.setPhase v).percentCap = s.percentCap := rfl
@[simp] theorem setPhase_trace (v : Phase) : (s.setPhase v).trace = s.trace := rfl
@[simp] theorem setPhase_inputs (v : Phase) : (s.setPhase v).inputs = s.inputs := rfl
@[simp] theorem setPhase_adcIn (v : Phase) : (s.setPhase v).adcIn = s.adcIn := rfl
@[simp] theorem setPhase_conversions (v : Phase) : (s.setPhase v).conversions = s.conversions := rfl
@[simp] theorem setPhase_acqIn (v : Phase) : (s.setPhase v).acqIn = s.acqIn := rfl
@[simp] theorem setPhase_acqSamples (v : Phase) : (s.setPhase v).acqSamples = s.acqSamples := rfl

@[simp] theorem setDuty_tracked (v : Duty) : (s.setDuty v).tracked = s.tracked := rfl
@[simp] theorem setDuty_phase (v : Duty) : (s.setDuty v).phase = s.phase := rfl
@[simp] theorem setDuty_duty (v : Duty) : (s.setDuty v).duty = v := rfl
@[simp] theorem setDuty_tcr (v : Duty) : (s.setDuty v).tcr = s.tcr := rfl
@[simp] theorem setDuty_status (v : Duty) : (s.setDuty v).status = s.status := rfl
@[simp] theorem setDuty_irqLock (v : Duty) : (s.setDuty v).irqLock = s.irqLock := rfl
@[simp] theorem setDuty_res (v : Duty) : (s.setDuty v).res = s.res := rfl
@[simp] theorem setDuty_hostIntEnable (v : Duty) : (s.setDuty v).hostIntEnable = s.hostIntEnable := rfl
@[simp] theorem setDuty_percentCap (v : Duty) : (s.setDuty v).percentCap = s.percentCap := rfl
@[simp] theorem setDuty_trace (v : Duty) : (s.setDuty v).trace = s.trace := rfl
@[simp] theorem setDuty_inputs (v : Duty) : (s.setDuty v).inputs = s.inputs := rfl
@[simp] theorem setDuty_adcIn (v : Duty) : (s.setDuty v).adcIn = s.adcIn := rfl
@[simp] theorem setDuty_conversions (v : Duty) : (s.setDuty v).conversions = s.conversions := rfl
@[simp] theorem setDuty_acqIn (v : Duty) : (s.setDuty v).acqIn = s.acqIn := rfl
@[simp] theorem setDuty_acqSamples (v : Duty) : (s.setDuty v).acqSamples = s.acqSamples := rfl

@[simp] theorem setIrqLock_tracked (b : Bool) : (s.setIrqLock b).tracked = s.tracked := rfl
@[simp] theorem setIrqLock_phase (b : Bool) : (s.setIrqLock b).phase = s.phase := rfl
@[simp] theorem setIrqLock_duty (b : Bool) : (s.setIrqLock b).duty = s.duty := rfl
@[simp] theorem setIrqLock_tcr (b : Bool) : (s.setIrqLock b).tcr = s.tcr := rfl
@[simp] theorem setIrqLock_status (b : Bool) : (s.setIrqLock b).status = s.status := rfl
@[simp] theorem setIrqLock_irqLock (b : Bool) : (s.setIrqLock b).irqLock = b := rfl
@[simp] theorem setIrqLock_res (b : Bool) : (s.setIrqLock b).res = s.res := rfl
@[simp] theorem setIrqLock_hostIntEnable (b : Bool) : (s.setIrqLock b).hostIntEnable = s.hostIntEnable := rfl
@[simp] theorem setIrqLock_percentCap (b : Bool) : (s.setIrqLock b).percentCap = s.percentCap := rfl
@[simp] theorem setIrqLock_trace (b : Bool) : (s.setIrqLock b).trace = s.trace := rfl
@[simp] theorem setIrqLock_inputs (b : Bool) : (s.setIrqLock b).inputs = s.inputs := rfl
@[simp] theorem setIrqLock_adcIn (b : Bool) : (s.setIrqLock b).adcIn = s.adcIn := rfl
@[simp] theorem setIrqLock_conversions (b : Bool) : (s.setIrqLock b).conversions = s.conversions := rfl
@[simp] theorem setIrqLock_acqIn (b : Bool) : (s.setIrqLock b).acqIn = s.acqIn := rfl
@[simp] theorem setIrqLock_acqSamples (b : Bool) : (s.setIrqLock b).acqSamples = s.acqSamples := rfl

@[simp] theorem drive_tracked (v : Word10) : (s.drive v).tracked = s.tracked := rfl
@[simp] theorem drive_phase (v : Word10) : (s.drive v).phase = s.phase := rfl
@[simp] theorem drive_duty (v : Word10) : (s.drive v).duty = s.duty := rfl
@[simp] theorem drive_tcr (v : Word10) : (s.drive v).tcr = s.tcr := rfl
@[simp] theorem drive_status (v : Word10) : (s.drive v).status = s.status := rfl
@[simp] theorem drive_irqLock (v : Word10) : (s.drive v).irqLock = s.irqLock := rfl
@[simp] theorem drive_res (v : Word10) : (s.drive v).res = some v := rfl
@[simp] theorem drive_hostIntEnable (v : Word10) : (s.drive v).hostIntEnable = s.hostIntEnable := rfl
@[simp] theorem drive_percentCap (v : Word10) : (s.drive v).percentCap = s.percentCap := rfl
@[simp] theorem drive_trace (v : Word10) : (s.drive v).trace = s.trace := rfl
@[simp] theorem drive_inputs (v : Word10) : (s.drive v).inputs = s.inputs := rfl
@[simp] theorem drive_adcIn (v : Word10) : (s.drive v).adcIn = s.adcIn := rfl
@[simp] theorem drive_conversions (v : Word10) : (s.drive v).conversions = s.conversions := rfl
@[simp] theorem drive_acqIn (v : Word10) : (s.drive v).acqIn = s.acqIn := rfl
@[simp] theorem drive_acqSamples (v : Word10) : (s.drive v).acqSamples = s.acqSamples := rfl

@[simp] theorem observe_tracked : s.observe.tracked = s.tracked := rfl
@[simp] theorem observe_phase : s.observe.phase = s.phase := rfl
@[simp] theorem observe_duty : s.observe.duty = s.duty := rfl
@[simp] theorem observe_tcr : s.observe.tcr = s.tcr := rfl
@[simp] theorem observe_status : s.observe.status = s.status := rfl
@[simp] theorem observe_irqLock : s.observe.irqLock = s.irqLock := rfl
@[simp] theorem observe_res : s.observe.res = s.res := rfl
@[simp] theorem observe_hostIntEnable : s.observe.hostIntEnable = s.hostIntEnable := rfl
@[simp] theorem observe_percentCap : s.observe.percentCap = s.percentCap := rfl
@[simp] theorem observe_trace : s.observe.trace = s.trace ++ [s.moment] := rfl
@[simp] theorem observe_inputs : s.observe.inputs = s.inputs := rfl
@[simp] theorem observe_adcIn : s.observe.adcIn = s.adcIn := rfl
@[simp] theorem observe_conversions : s.observe.conversions = s.conversions := rfl
@[simp] theorem observe_acqIn : s.observe.acqIn = s.acqIn := rfl
@[simp] theorem observe_acqSamples : s.observe.acqSamples = s.acqSamples := rfl

@[simp] theorem setInputs_tracked (rest : List Input) : (s.setInputs rest).tracked = s.tracked := rfl
@[simp] theorem setInputs_phase (rest : List Input) : (s.setInputs rest).phase = s.phase := rfl
@[simp] theorem setInputs_duty (rest : List Input) : (s.setInputs rest).duty = s.duty := rfl
@[simp] theorem setInputs_tcr (rest : List Input) : (s.setInputs rest).tcr = s.tcr := rfl
@[simp] theorem setInputs_status (rest : List Input) : (s.setInputs rest).status = s.status := rfl
@[simp] theorem setInputs_irqLock (rest : List Input) : (s.setInputs rest).irqLock = s.irqLock := rfl
@[simp] theorem setInputs_res (rest : List Input) : (s.setInputs rest).res = s.res := rfl
@[simp] theorem setInputs_hostIntEnable (rest : List Input) : (s.setInputs rest).hostIntEnable = s.hostIntEnable := rfl
@[simp] theorem setInputs_percentCap (rest : List Input) : (s.setInputs rest).percentCap = s.percentCap := rfl
@[simp] theorem setInputs_trace (rest : List Input) : (s.setInputs rest).trace = s.trace := rfl
@[simp] theorem setInputs_inputs (rest : List Input) : (s.setInputs rest).inputs = rest := rfl
@[simp] theorem setInputs_adcIn (rest : List Input) : (s.setInputs rest).adcIn = s.adcIn := rfl
@[simp] theorem setInputs_conversions (rest : List Input) : (s.setInputs rest).conversions = s.conversions := rfl
@[simp] theorem setInputs_acqIn (rest : List Input) : (s.setInputs rest).acqIn = s.acqIn := rfl
@[simp] theorem setInputs_acqSamples (rest : List Input) : (s.setInputs rest).acqSamples = s.acqSamples := rfl

@[simp] theorem setHostIntEnable_tracked (on : Bool) : (s.setHostIntEnable on).tracked = s.tracked := rfl
@[simp] theorem setHostIntEnable_phase (on : Bool) : (s.setHostIntEnable on).phase = s.phase := rfl
@[simp] theorem setHostIntEnable_duty (on : Bool) : (s.setHostIntEnable on).duty = s.duty := rfl
@[simp] theorem setHostIntEnable_tcr (on : Bool) : (s.setHostIntEnable on).tcr = s.tcr := rfl
@[simp] theorem setHostIntEnable_status (on : Bool) : (s.setHostIntEnable on).status = s.status := rfl
@[simp] theorem setHostIntEnable_irqLock (on : Bool) : (s.setHostIntEnable on).irqLock = s.irqLock := rfl
@[simp] theorem setHostIntEnable_res (on : Bool) : (s.setHostIntEnable on).res = s.res := rfl
@[simp] theorem setHostIntEnable_hostIntEnable (on : Bool) : (s.setHostIntEnable on).hostIntEnable = on := rfl
@[simp] theorem setHostIntEnable_percentCap (on : Bool) : (s.setHostIntEnable on).percentCap = s.percentCap := rfl
@[simp] theorem setHostIntEnable_trace (on : Bool) : (s.setHostIntEnable on).trace = s.trace := rfl
@[simp] theorem setHostIntEnable_inputs (on : Bool) : (s.setHostIntEnable on).inputs = s.inputs := rfl
@[simp] theorem setHostIntEnable_adcIn (on : Bool) : (s.setHostIntEnable on).adcIn = s.adcIn := rfl
@[simp] theorem setHostIntEnable_conversions (on : Bool) : (s.setHostIntEnable on).conversions = s.conversions := rfl
@[simp] theorem setHostIntEnable_acqIn (on : Bool) : (s.setHostIntEnable on).acqIn = s.acqIn := rfl
@[simp] theorem setHostIntEnable_acqSamples (on : Bool) : (s.setHostIntEnable on).acqSamples = s.acqSamples := rfl

@[simp] theorem convert_tracked : s.convert.tracked = s.tracked := rfl
@[simp] theorem convert_phase : s.convert.phase = s.phase := rfl
@[simp] theorem convert_duty : s.convert.duty = s.duty := rfl
@[simp] theorem convert_tcr : s.convert.tcr = s.tcr := rfl
@[simp] theorem convert_status : s.convert.status = s.status := rfl
@[simp] theorem convert_irqLock : s.convert.irqLock = s.irqLock := rfl
@[simp] theorem convert_res : s.convert.res = s.res := rfl
@[simp] theorem convert_hostIntEnable : s.convert.hostIntEnable = s.hostIntEnable := rfl
@[simp] theorem convert_percentCap : s.convert.percentCap = s.percentCap := rfl
@[simp] theorem convert_trace : s.convert.trace = s.trace := rfl
@[simp] theorem convert_inputs : s.convert.inputs = s.inputs := rfl
@[simp] theorem convert_adcIn : s.convert.adcIn = s.adcIn.tail := rfl
@[simp] theorem convert_conversions : s.convert.conversions = s.conversions + 1 := rfl
@[simp] theorem convert_acqIn : s.convert.acqIn = s.acqIn := rfl
@[simp] theorem convert_acqSamples : s.convert.acqSamples = s.acqSamples := rfl

@[simp] theorem sampleAcq_tracked : s.sampleAcq.tracked = s.tracked := rfl
@[simp] theorem sampleAcq_phase : s.sampleAcq.phase = s.phase := rfl
@[simp] theorem sampleAcq_duty : s.sampleAcq.duty = s.duty := rfl
@[simp] theorem sampleAcq_tcr : s.sampleAcq.tcr = s.tcr := rfl
@[simp] theorem sampleAcq_status : s.sampleAcq.status = s.status := rfl
@[simp] theorem sampleAcq_irqLock : s.sampleAcq.irqLock = s.irqLock := rfl
@[simp] theorem sampleAcq_res : s.sampleAcq.res = s.res := rfl
@[simp] theorem sampleAcq_hostIntEnable : s.sampleAcq.hostIntEnable = s.hostIntEnable := rfl
@[simp] theorem sampleAcq_percentCap : s.sampleAcq.percentCap = s.percentCap := rfl
@[simp] theorem sampleAcq_trace : s.sampleAcq.trace = s.trace := rfl
@[simp] theorem sampleAcq_inputs : s.sampleAcq.inputs = s.inputs := rfl
@[simp] theorem sampleAcq_adcIn : s.sampleAcq.adcIn = s.adcIn := rfl
@[simp] theorem sampleAcq_conversions : s.sampleAcq.conversions = s.conversions := rfl
@[simp] theorem sampleAcq_acqIn : s.sampleAcq.acqIn = s.acqIn.tail := rfl
@[simp] theorem sampleAcq_acqSamples : s.sampleAcq.acqSamples = s.acqSamples + 1 := rfl

@[simp] theorem setConfigured_tracked : s.setConfigured.tracked = s.tracked := rfl
@[simp] theorem setConfigured_phase : s.setConfigured.phase = s.phase := rfl
@[simp] theorem setConfigured_duty : s.setConfigured.duty = s.duty := rfl
@[simp] theorem setConfigured_tcr : s.setConfigured.tcr = s.tcr := rfl
@[simp] theorem setConfigured_status : s.setConfigured.status = statusWord s.cause s.halted true := rfl
@[simp] theorem setConfigured_irqLock : s.setConfigured.irqLock = s.irqLock := rfl
@[simp] theorem setConfigured_res : s.setConfigured.res = s.res := rfl
@[simp] theorem setConfigured_hostIntEnable : s.setConfigured.hostIntEnable = s.hostIntEnable := rfl
@[simp] theorem setConfigured_percentCap : s.setConfigured.percentCap = s.percentCap := rfl
@[simp] theorem setConfigured_trace : s.setConfigured.trace = s.trace := rfl
@[simp] theorem setConfigured_inputs : s.setConfigured.inputs = s.inputs := rfl
@[simp] theorem setConfigured_adcIn : s.setConfigured.adcIn = s.adcIn := rfl
@[simp] theorem setConfigured_conversions : s.setConfigured.conversions = s.conversions := rfl
@[simp] theorem setConfigured_acqIn : s.setConfigured.acqIn = s.acqIn := rfl
@[simp] theorem setConfigured_acqSamples : s.setConfigured.acqSamples = s.acqSamples := rfl

@[simp] theorem setHalted_tracked (c : Cause) : (s.setHalted c).tracked = s.tracked := rfl
@[simp] theorem setHalted_phase (c : Cause) : (s.setHalted c).phase = s.phase := rfl
@[simp] theorem setHalted_duty (c : Cause) : (s.setHalted c).duty = s.duty := rfl
@[simp] theorem setHalted_tcr (c : Cause) : (s.setHalted c).tcr = s.tcr := rfl
@[simp] theorem setHalted_status (c : Cause) : (s.setHalted c).status = statusWord c.code true s.configured := rfl
@[simp] theorem setHalted_irqLock (c : Cause) : (s.setHalted c).irqLock = s.irqLock := rfl
@[simp] theorem setHalted_res (c : Cause) : (s.setHalted c).res = s.res := rfl
@[simp] theorem setHalted_hostIntEnable (c : Cause) : (s.setHalted c).hostIntEnable = s.hostIntEnable := rfl
@[simp] theorem setHalted_percentCap (c : Cause) : (s.setHalted c).percentCap = s.percentCap := rfl
@[simp] theorem setHalted_trace (c : Cause) : (s.setHalted c).trace = s.trace := rfl
@[simp] theorem setHalted_inputs (c : Cause) : (s.setHalted c).inputs = s.inputs := rfl
@[simp] theorem setHalted_adcIn (c : Cause) : (s.setHalted c).adcIn = s.adcIn := rfl
@[simp] theorem setHalted_conversions (c : Cause) : (s.setHalted c).conversions = s.conversions := rfl
@[simp] theorem setHalted_acqIn (c : Cause) : (s.setHalted c).acqIn = s.acqIn := rfl
@[simp] theorem setHalted_acqSamples (c : Cause) : (s.setHalted c).acqSamples = s.acqSamples := rfl

@[simp] theorem raise_tracked (c : Cause) : (s.raise c).tracked = s.tracked := rfl
@[simp] theorem raise_phase (c : Cause) : (s.raise c).phase = s.phase := rfl
@[simp] theorem raise_duty (c : Cause) : (s.raise c).duty = s.duty := rfl
@[simp] theorem raise_tcr (c : Cause) : (s.raise c).tcr = s.tcr := rfl
@[simp] theorem raise_status (c : Cause) : (s.raise c).status = statusWord c.code true s.configured := rfl
@[simp] theorem raise_irqLock (c : Cause) : (s.raise c).irqLock = false := rfl
@[simp] theorem raise_res (c : Cause) : (s.raise c).res = none := rfl
@[simp] theorem raise_hostIntEnable (c : Cause) : (s.raise c).hostIntEnable = s.hostIntEnable := rfl
@[simp] theorem raise_percentCap (c : Cause) : (s.raise c).percentCap = s.percentCap := rfl
@[simp] theorem raise_trace (c : Cause) : (s.raise c).trace = s.trace := rfl
@[simp] theorem raise_inputs (c : Cause) : (s.raise c).inputs = s.inputs := rfl
@[simp] theorem raise_adcIn (c : Cause) : (s.raise c).adcIn = s.adcIn := rfl
@[simp] theorem raise_conversions (c : Cause) : (s.raise c).conversions = s.conversions := rfl
@[simp] theorem raise_acqIn (c : Cause) : (s.raise c).acqIn = s.acqIn := rfl
@[simp] theorem raise_acqSamples (c : Cause) : (s.raise c).acqSamples = s.acqSamples := rfl

@[simp] theorem setPwmEn_tracked : s.setPwmEn.tracked = s.tracked := rfl
@[simp] theorem setPwmEn_phase : s.setPwmEn.phase = s.phase := rfl
@[simp] theorem setPwmEn_duty : s.setPwmEn.duty = s.duty := rfl
@[simp] theorem setPwmEn_tcr : s.setPwmEn.tcr = tcrWord s.other s.inv true := rfl
@[simp] theorem setPwmEn_status : s.setPwmEn.status = s.status := rfl
@[simp] theorem setPwmEn_irqLock : s.setPwmEn.irqLock = s.irqLock := rfl
@[simp] theorem setPwmEn_res : s.setPwmEn.res = s.res := rfl
@[simp] theorem setPwmEn_hostIntEnable : s.setPwmEn.hostIntEnable = s.hostIntEnable := rfl
@[simp] theorem setPwmEn_percentCap : s.setPwmEn.percentCap = s.percentCap := rfl
@[simp] theorem setPwmEn_trace : s.setPwmEn.trace = s.trace := rfl
@[simp] theorem setPwmEn_inputs : s.setPwmEn.inputs = s.inputs := rfl
@[simp] theorem setPwmEn_adcIn : s.setPwmEn.adcIn = s.adcIn := rfl
@[simp] theorem setPwmEn_conversions : s.setPwmEn.conversions = s.conversions := rfl
@[simp] theorem setPwmEn_acqIn : s.setPwmEn.acqIn = s.acqIn := rfl
@[simp] theorem setPwmEn_acqSamples : s.setPwmEn.acqSamples = s.acqSamples := rfl

@[simp] theorem setInv_tracked : s.setInv.tracked = s.tracked := rfl
@[simp] theorem setInv_phase : s.setInv.phase = s.phase := rfl
@[simp] theorem setInv_duty : s.setInv.duty = s.duty := rfl
@[simp] theorem setInv_tcr : s.setInv.tcr = tcrWord s.other true s.pwmEn := rfl
@[simp] theorem setInv_status : s.setInv.status = s.status := rfl
@[simp] theorem setInv_irqLock : s.setInv.irqLock = s.irqLock := rfl
@[simp] theorem setInv_res : s.setInv.res = s.res := rfl
@[simp] theorem setInv_hostIntEnable : s.setInv.hostIntEnable = s.hostIntEnable := rfl
@[simp] theorem setInv_percentCap : s.setInv.percentCap = s.percentCap := rfl
@[simp] theorem setInv_trace : s.setInv.trace = s.trace := rfl
@[simp] theorem setInv_inputs : s.setInv.inputs = s.inputs := rfl
@[simp] theorem setInv_adcIn : s.setInv.adcIn = s.adcIn := rfl
@[simp] theorem setInv_conversions : s.setInv.conversions = s.conversions := rfl
@[simp] theorem setInv_acqIn : s.setInv.acqIn = s.acqIn := rfl
@[simp] theorem setInv_acqSamples : s.setInv.acqSamples = s.acqSamples := rfl

@[simp] theorem setOther_tracked (o : BitVec 6) : (s.setOther o).tracked = s.tracked := rfl
@[simp] theorem setOther_phase (o : BitVec 6) : (s.setOther o).phase = s.phase := rfl
@[simp] theorem setOther_duty (o : BitVec 6) : (s.setOther o).duty = s.duty := rfl
@[simp] theorem setOther_tcr (o : BitVec 6) : (s.setOther o).tcr = tcrWord o s.inv s.pwmEn := rfl
@[simp] theorem setOther_status (o : BitVec 6) : (s.setOther o).status = s.status := rfl
@[simp] theorem setOther_irqLock (o : BitVec 6) : (s.setOther o).irqLock = s.irqLock := rfl
@[simp] theorem setOther_res (o : BitVec 6) : (s.setOther o).res = s.res := rfl
@[simp] theorem setOther_hostIntEnable (o : BitVec 6) : (s.setOther o).hostIntEnable = s.hostIntEnable := rfl
@[simp] theorem setOther_percentCap (o : BitVec 6) : (s.setOther o).percentCap = s.percentCap := rfl
@[simp] theorem setOther_trace (o : BitVec 6) : (s.setOther o).trace = s.trace := rfl
@[simp] theorem setOther_inputs (o : BitVec 6) : (s.setOther o).inputs = s.inputs := rfl
@[simp] theorem setOther_adcIn (o : BitVec 6) : (s.setOther o).adcIn = s.adcIn := rfl
@[simp] theorem setOther_conversions (o : BitVec 6) : (s.setOther o).conversions = s.conversions := rfl
@[simp] theorem setOther_acqIn (o : BitVec 6) : (s.setOther o).acqIn = s.acqIn := rfl
@[simp] theorem setOther_acqSamples (o : BitVec 6) : (s.setOther o).acqSamples = s.acqSamples := rfl

@[simp] theorem resetTo_tracked (d : Duty) (o : BitVec 6) : (s.resetTo d o).tracked = 0 := rfl
@[simp] theorem resetTo_phase (d : Duty) (o : BitVec 6) : (s.resetTo d o).phase = 0 := rfl
@[simp] theorem resetTo_duty (d : Duty) (o : BitVec 6) : (s.resetTo d o).duty = d := rfl
@[simp] theorem resetTo_tcr (d : Duty) (o : BitVec 6) : (s.resetTo d o).tcr = tcrWord o false false := rfl
@[simp] theorem resetTo_status (d : Duty) (o : BitVec 6) : (s.resetTo d o).status = 0 := rfl
@[simp] theorem resetTo_irqLock (d : Duty) (o : BitVec 6) : (s.resetTo d o).irqLock = false := rfl
@[simp] theorem resetTo_res (d : Duty) (o : BitVec 6) : (s.resetTo d o).res = none := rfl
@[simp] theorem resetTo_hostIntEnable (d : Duty) (o : BitVec 6) : (s.resetTo d o).hostIntEnable = s.hostIntEnable := rfl
@[simp] theorem resetTo_percentCap (d : Duty) (o : BitVec 6) : (s.resetTo d o).percentCap = s.percentCap := rfl
@[simp] theorem resetTo_trace (d : Duty) (o : BitVec 6) : (s.resetTo d o).trace = s.trace := rfl
@[simp] theorem resetTo_inputs (d : Duty) (o : BitVec 6) : (s.resetTo d o).inputs = s.inputs := rfl
@[simp] theorem resetTo_adcIn (d : Duty) (o : BitVec 6) : (s.resetTo d o).adcIn = s.adcIn := rfl
@[simp] theorem resetTo_conversions (d : Duty) (o : BitVec 6) : (s.resetTo d o).conversions = s.conversions := rfl
@[simp] theorem resetTo_acqIn (d : Duty) (o : BitVec 6) : (s.resetTo d o).acqIn = s.acqIn := rfl
@[simp] theorem resetTo_acqSamples (d : Duty) (o : BitVec 6) : (s.resetTo d o).acqSamples = s.acqSamples := rfl

end

end Sys2Proof.Machine
end

