-- ==== Sys2Proof/Laws/Fields.lean ====
section
/-! SUPPORT. The fields of `STATUS` and `TCR` read back what a whole-register write put there, and the
primitives read as the spec writes them. -/

namespace Sys2Proof.Machine

@[simp] theorem statusConfigured_statusWord (c : BitVec 3) (h k : Bool) :
    statusConfigured (statusWord c h k) = k := by
  revert c h k; decide

@[simp] theorem statusHalted_statusWord (c : BitVec 3) (h k : Bool) :
    statusHalted (statusWord c h k) = h := by
  revert c h k; decide

@[simp] theorem statusCause_statusWord (c : BitVec 3) (h k : Bool) :
    statusCause (statusWord c h k) = c := by
  revert c h k; decide

@[simp] theorem tcrPwmEn_tcrWord (o : BitVec 6) (i p : Bool) : tcrPwmEn (tcrWord o i p) = p := by
  revert o i p; decide

@[simp] theorem tcrInv_tcrWord (o : BitVec 6) (i p : Bool) : tcrInv (tcrWord o i p) = i := by
  revert o i p; decide

@[simp] theorem tcrOther_tcrWord (o : BitVec 6) (i p : Bool) : tcrOther (tcrWord o i p) = o := by
  revert o i p; decide

/-- `STATUS` is its three fields and nothing else (R31). -/
theorem statusWord_fields (w : BitVec 5) :
    statusWord (statusCause w) (statusHalted w) (statusConfigured w) = w := by
  revert w; decide

/-- `TCR` is its three fields and nothing else (R28). -/
theorem tcrWord_fields (w : BitVec 8) : tcrWord (tcrOther w) (tcrInv w) (tcrPwmEn w) = w := by
  revert w; decide

@[simp] theorem statusConfigured_zero : statusConfigured 0 = false := by decide
@[simp] theorem statusHalted_zero : statusHalted 0 = false := by decide
@[simp] theorem statusCause_zero : statusCause 0 = 0 := by decide

@[simp] theorem code_ne_zero (c : Cause) : c.code ≠ 0#3 := by cases c <;> decide
theorem code_le (c : Cause) : c.code.toNat ≤ 5 := by cases c <;> decide

/-- A recorded cause tells the faults apart (R210). -/
theorem code_injective (c d : Cause) (h : c.code = d.code) : c = d := by
  cases c <;> cases d <;> first | rfl | exact absurd h (by decide)

theorem satAdd_eq (a b top : Nat) : satAdd a b top = min (a + b) top := rfl

theorem invert_toNat (d : Duty) : (invert d).toNat = 255 - d.toNat := by
  have := d.isLt
  simp only [invert, BitVec.toNat_sub, BitVec.toNat_ofNat]
  omega

-- accessors after each update

section
variable (s : State)

@[simp] theorem quiet_configured : s.quiet.configured = s.configured := rfl
@[simp] theorem quiet_halted : s.quiet.halted = s.halted := rfl
@[simp] theorem quiet_cause : s.quiet.cause = s.cause := rfl
@[simp] theorem quiet_pwmEn : s.quiet.pwmEn = s.pwmEn := rfl
@[simp] theorem quiet_inv : s.quiet.inv = s.inv := rfl
@[simp] theorem quiet_other : s.quiet.other = s.other := rfl

@[simp] theorem setTracked_configured (v : Word10) : (s.setTracked v).configured = s.configured := rfl
@[simp] theorem setTracked_halted (v : Word10) : (s.setTracked v).halted = s.halted := rfl
@[simp] theorem setTracked_cause (v : Word10) : (s.setTracked v).cause = s.cause := rfl
@[simp] theorem setTracked_pwmEn (v : Word10) : (s.setTracked v).pwmEn = s.pwmEn := rfl
@[simp] theorem setTracked_inv (v : Word10) : (s.setTracked v).inv = s.inv := rfl
@[simp] theorem setTracked_other (v : Word10) : (s.setTracked v).other = s.other := rfl

@[simp] theorem setPhase_configured (v : Phase) : (s.setPhase v).configured = s.configured := rfl
@[simp] theorem setPhase_halted (v : Phase) : (s.setPhase v).halted = s.halted := rfl
@[simp] theorem setPhase_cause (v : Phase) : (s.setPhase v).cause = s.cause := rfl
@[simp] theorem setPhase_pwmEn (v : Phase) : (s.setPhase v).pwmEn = s.pwmEn := rfl
@[simp] theorem setPhase_inv (v : Phase) : (s.setPhase v).inv = s.inv := rfl
@[simp] theorem setPhase_other (v : Phase) : (s.setPhase v).other = s.other := rfl

@[simp] theorem setDuty_configured (v : Duty) : (s.setDuty v).configured = s.configured := rfl
@[simp] theorem setDuty_halted (v : Duty) : (s.setDuty v).halted = s.halted := rfl
@[simp] theorem setDuty_cause (v : Duty) : (s.setDuty v).cause = s.cause := rfl
@[simp] theorem setDuty_pwmEn (v : Duty) : (s.setDuty v).pwmEn = s.pwmEn := rfl
@[simp] theorem setDuty_inv (v : Duty) : (s.setDuty v).inv = s.inv := rfl
@[simp] theorem setDuty_other (v : Duty) : (s.setDuty v).other = s.other := rfl

@[simp] theorem setIrqLock_configured (b : Bool) : (s.setIrqLock b).configured = s.configured := rfl
@[simp] theorem setIrqLock_halted (b : Bool) : (s.setIrqLock b).halted = s.halted := rfl
@[simp] theorem setIrqLock_cause (b : Bool) : (s.setIrqLock b).cause = s.cause := rfl
@[simp] theorem setIrqLock_pwmEn (b : Bool) : (s.setIrqLock b).pwmEn = s.pwmEn := rfl
@[simp] theorem setIrqLock_inv (b : Bool) : (s.setIrqLock b).inv = s.inv := rfl
@[simp] theorem setIrqLock_other (b : Bool) : (s.setIrqLock b).other = s.other := rfl

@[simp] theorem drive_configured (v : Word10) : (s.drive v).configured = s.configured := rfl
@[simp] theorem drive_halted (v : Word10) : (s.drive v).halted = s.halted := rfl
@[simp] theorem drive_cause (v : Word10) : (s.drive v).cause = s.cause := rfl
@[simp] theorem drive_pwmEn (v : Word10) : (s.drive v).pwmEn = s.pwmEn := rfl
@[simp] theorem drive_inv (v : Word10) : (s.drive v).inv = s.inv := rfl
@[simp] theorem drive_other (v : Word10) : (s.drive v).other = s.other := rfl

@[simp] theorem observe_configured : s.observe.configured = s.configured := rfl
@[simp] theorem observe_halted : s.observe.halted = s.halted := rfl
@[simp] theorem observe_cause : s.observe.cause = s.cause := rfl
@[simp] theorem observe_pwmEn : s.observe.pwmEn = s.pwmEn := rfl
@[simp] theorem observe_inv : s.observe.inv = s.inv := rfl
@[simp] theorem observe_other : s.observe.other = s.other := rfl

@[simp] theorem setInputs_configured (rest : List Input) : (s.setInputs rest).configured = s.configured := rfl
@[simp] theorem setInputs_halted (rest : List Input) : (s.setInputs rest).halted = s.halted := rfl
@[simp] theorem setInputs_cause (rest : List Input) : (s.setInputs rest).cause = s.cause := rfl
@[simp] theorem setInputs_pwmEn (rest : List Input) : (s.setInputs rest).pwmEn = s.pwmEn := rfl
@[simp] theorem setInputs_inv (rest : List Input) : (s.setInputs rest).inv = s.inv := rfl
@[simp] theorem setInputs_other (rest : List Input) : (s.setInputs rest).other = s.other := rfl

@[simp] theorem setHostIntEnable_configured (on : Bool) : (s.setHostIntEnable on).configured = s.configured := rfl
@[simp] theorem setHostIntEnable_halted (on : Bool) : (s.setHostIntEnable on).halted = s.halted := rfl
@[simp] theorem setHostIntEnable_cause (on : Bool) : (s.setHostIntEnable on).cause = s.cause := rfl
@[simp] theorem setHostIntEnable_pwmEn (on : Bool) : (s.setHostIntEnable on).pwmEn = s.pwmEn := rfl
@[simp] theorem setHostIntEnable_inv (on : Bool) : (s.setHostIntEnable on).inv = s.inv := rfl
@[simp] theorem setHostIntEnable_other (on : Bool) : (s.setHostIntEnable on).other = s.other := rfl

@[simp] theorem convert_configured : s.convert.configured = s.configured := rfl
@[simp] theorem convert_halted : s.convert.halted = s.halted := rfl
@[simp] theorem convert_cause : s.convert.cause = s.cause := rfl
@[simp] theorem convert_pwmEn : s.convert.pwmEn = s.pwmEn := rfl
@[simp] theorem convert_inv : s.convert.inv = s.inv := rfl
@[simp] theorem convert_other : s.convert.other = s.other := rfl

@[simp] theorem sampleAcq_configured : s.sampleAcq.configured = s.configured := rfl
@[simp] theorem sampleAcq_halted : s.sampleAcq.halted = s.halted := rfl
@[simp] theorem sampleAcq_cause : s.sampleAcq.cause = s.cause := rfl
@[simp] theorem sampleAcq_pwmEn : s.sampleAcq.pwmEn = s.pwmEn := rfl
@[simp] theorem sampleAcq_inv : s.sampleAcq.inv = s.inv := rfl
@[simp] theorem sampleAcq_other : s.sampleAcq.other = s.other := rfl

@[simp] theorem setConfigured_configured : s.setConfigured.configured = true := statusConfigured_statusWord _ _ _
@[simp] theorem setConfigured_halted : s.setConfigured.halted = s.halted := statusHalted_statusWord _ _ _
@[simp] theorem setConfigured_cause : s.setConfigured.cause = s.cause := statusCause_statusWord _ _ _
@[simp] theorem setConfigured_pwmEn : s.setConfigured.pwmEn = s.pwmEn := rfl
@[simp] theorem setConfigured_inv : s.setConfigured.inv = s.inv := rfl
@[simp] theorem setConfigured_other : s.setConfigured.other = s.other := rfl

@[simp] theorem setHalted_configured (c : Cause) : (s.setHalted c).configured = s.configured := statusConfigured_statusWord _ _ _
@[simp] theorem setHalted_halted (c : Cause) : (s.setHalted c).halted = true := statusHalted_statusWord _ _ _
@[simp] theorem setHalted_cause (c : Cause) : (s.setHalted c).cause = c.code := statusCause_statusWord _ _ _
@[simp] theorem setHalted_pwmEn (c : Cause) : (s.setHalted c).pwmEn = s.pwmEn := rfl
@[simp] theorem setHalted_inv (c : Cause) : (s.setHalted c).inv = s.inv := rfl
@[simp] theorem setHalted_other (c : Cause) : (s.setHalted c).other = s.other := rfl

@[simp] theorem raise_configured (c : Cause) : (s.raise c).configured = s.configured := statusConfigured_statusWord _ _ _
@[simp] theorem raise_halted (c : Cause) : (s.raise c).halted = true := statusHalted_statusWord _ _ _
@[simp] theorem raise_cause (c : Cause) : (s.raise c).cause = c.code := statusCause_statusWord _ _ _
@[simp] theorem raise_pwmEn (c : Cause) : (s.raise c).pwmEn = s.pwmEn := rfl
@[simp] theorem raise_inv (c : Cause) : (s.raise c).inv = s.inv := rfl
@[simp] theorem raise_other (c : Cause) : (s.raise c).other = s.other := rfl

@[simp] theorem setPwmEn_configured : s.setPwmEn.configured = s.configured := rfl
@[simp] theorem setPwmEn_halted : s.setPwmEn.halted = s.halted := rfl
@[simp] theorem setPwmEn_cause : s.setPwmEn.cause = s.cause := rfl
@[simp] theorem setPwmEn_pwmEn : s.setPwmEn.pwmEn = true := tcrPwmEn_tcrWord _ _ _
@[simp] theorem setPwmEn_inv : s.setPwmEn.inv = s.inv := tcrInv_tcrWord _ _ _
@[simp] theorem setPwmEn_other : s.setPwmEn.other = s.other := tcrOther_tcrWord _ _ _

@[simp] theorem setInv_configured : s.setInv.configured = s.configured := rfl
@[simp] theorem setInv_halted : s.setInv.halted = s.halted := rfl
@[simp] theorem setInv_cause : s.setInv.cause = s.cause := rfl
@[simp] theorem setInv_pwmEn : s.setInv.pwmEn = s.pwmEn := tcrPwmEn_tcrWord _ _ _
@[simp] theorem setInv_inv : s.setInv.inv = true := tcrInv_tcrWord _ _ _
@[simp] theorem setInv_other : s.setInv.other = s.other := tcrOther_tcrWord _ _ _

@[simp] theorem setOther_configured (o : BitVec 6) : (s.setOther o).configured = s.configured := rfl
@[simp] theorem setOther_halted (o : BitVec 6) : (s.setOther o).halted = s.halted := rfl
@[simp] theorem setOther_cause (o : BitVec 6) : (s.setOther o).cause = s.cause := rfl
@[simp] theorem setOther_pwmEn (o : BitVec 6) : (s.setOther o).pwmEn = s.pwmEn := tcrPwmEn_tcrWord _ _ _
@[simp] theorem setOther_inv (o : BitVec 6) : (s.setOther o).inv = s.inv := tcrInv_tcrWord _ _ _
@[simp] theorem setOther_other (o : BitVec 6) : (s.setOther o).other = o := tcrOther_tcrWord _ _ _

@[simp] theorem resetTo_configured (d : Duty) (o : BitVec 6) : (s.resetTo d o).configured = false := statusConfigured_zero
@[simp] theorem resetTo_halted (d : Duty) (o : BitVec 6) : (s.resetTo d o).halted = false := statusHalted_zero
@[simp] theorem resetTo_cause (d : Duty) (o : BitVec 6) : (s.resetTo d o).cause = 0 := statusCause_zero
@[simp] theorem resetTo_pwmEn (d : Duty) (o : BitVec 6) : (s.resetTo d o).pwmEn = false := tcrPwmEn_tcrWord _ _ _
@[simp] theorem resetTo_inv (d : Duty) (o : BitVec 6) : (s.resetTo d o).inv = false := tcrInv_tcrWord _ _ _
@[simp] theorem resetTo_other (d : Duty) (o : BitVec 6) : (s.resetTo d o).other = o := tcrOther_tcrWord _ _ _

end

end Sys2Proof.Machine
end

