-- ==== Sys2Proof/Laws/Arith.lean ====
section
/-! SUPPORT. What the pure functions compute, in natural numbers: one lemma for each function. -/

namespace Sys2Proof.Machine

theorem satAdd_one (n : Nat) : satAdd n 1 Config.adcMax = min (n + 1) 1023 := rfl

/-- Clause 1 of R103. -/
theorem hyst_of_rise (raw previous : Word10) (h : raw.toNat > previous.toNat + 1) :
    (hyst raw previous).toNat = raw.toNat - 1 := by
  have hr := raw.isLt
  have hc : raw.toNat > satAdd previous.toNat 1 Config.adcMax := by rw [satAdd_one]; omega
  simp only [hyst, hc, if_true, BitVec.toNat_ofNat]
  omega

/-- Clause 2 of R103. -/
theorem hyst_of_fall (raw previous : Word10) (h : raw.toNat < previous.toNat) :
    hyst raw previous = raw := by
  have hr := raw.isLt
  have hp := previous.isLt
  have hc : ¬ raw.toNat > satAdd previous.toNat 1 Config.adcMax := by rw [satAdd_one]; omega
  simp [hyst, hc, h]

/-- Clause 3 of R103. -/
theorem hyst_of_hold (raw previous : Word10) (h : previous.toNat ≤ raw.toNat)
    (h' : raw.toNat ≤ previous.toNat + 1) : hyst raw previous = previous := by
  have hr := raw.isLt
  have hc : ¬ raw.toNat > satAdd previous.toNat 1 Config.adcMax := by rw [satAdd_one]; omega
  simp [hyst, hc, Nat.not_lt.mpr h]

/-- The clamp of R122 never acts. -/
theorem gamma_toNat (v : Word10) : (gamma v).toNat = v.toNat * v.toNat / 1023 := by
  have hv : v.toNat ≤ 1023 := by have := v.isLt; omega
  have hq : v.toNat * v.toNat / 1023 ≤ 1023 :=
    Nat.div_le_of_le_mul (Nat.mul_le_mul hv hv)
  simp only [gamma, clamp, Config.adcMax, BitVec.toNat_ofNat]
  omega

theorem scale_toNat (cap : Config.Cap) (v : Word10) :
    (scale cap v).toNat = v.toNat * cap.val / 100 := by
  have hv : v.toNat ≤ 1023 := by have := v.isLt; omega
  have hc : cap.val ≤ 100 := by have := cap.isLt; omega
  have hq : v.toNat * cap.val / 100 ≤ 1023 := by
    apply Nat.div_le_of_le_mul
    calc v.toNat * cap.val ≤ 1023 * 100 := Nat.mul_le_mul hv hc
      _ = 100 * 1023 := rfl
  simp only [scale, BitVec.toNat_ofNat]
  omega

theorem base8_toNat (v : Word10) : (base8 v).toNat = v.toNat / 4 := by
  have := v.isLt
  simp only [base8, BitVec.extractLsb'_toNat, Nat.shiftRight_eq_div_pow]
  omega

theorem rem2_toNat (v : Word10) : (rem2 v).toNat = v.toNat % 4 := by
  simp [rem2, BitVec.extractLsb'_toNat]

theorem ditherEntry_le (r : BitVec 2) (p : Phase) : ditherEntry r p ≤ 1 := by
  revert r p; decide

theorem ditherSum_toNat (v : Word10) (p : Phase) :
    (ditherSum v p).toNat = v.toNat / 4 + ditherEntry (rem2 v) p := by
  have := v.isLt
  have := ditherEntry_le (rem2 v) p
  simp only [ditherSum, base8_toNat, BitVec.toNat_ofNat]
  omega

theorem nextPhase_toNat (p : Phase) : (nextPhase p).toNat = (p.toNat + 1) % 4 := by
  revert p; decide

end Sys2Proof.Machine
end

