-- ==== Sys2Proof/Laws/Decode.lean ====
section
/-! SUPPORT. The fields of a command word read back what `cmdWord` put there, and how decoding ends. -/

namespace Sys2Proof

@[simp] theorem opcOf_cmdWord (opc : BitVec 4) (arg : Word10) : opcOf (cmdWord opc arg) = opc := by
  ext i hi
  simp only [opcOf, cmdWord, BitVec.getElem_extractLsb', BitVec.getLsbD_append]
  have h1 : ¬ 12 + i < 12 := by omega
  simp [h1, hi]

@[simp] theorem rsvOf_cmdWord (opc : BitVec 4) (arg : Word10) : rsvOf (cmdWord opc arg) = 0 := by
  ext i hi
  simp only [rsvOf, cmdWord, BitVec.getElem_extractLsb', BitVec.getLsbD_append]
  have h1 : 10 + i < 12 := by omega
  simp [h1]

@[simp] theorem argOf_cmdWord (opc : BitVec 4) (arg : Word10) : argOf (cmdWord opc arg) = arg := by
  ext i hi
  simp only [argOf, cmdWord, BitVec.getElem_extractLsb', BitVec.getLsbD_append]
  simp only [hi, Nat.zero_add, show i < 12 by omega, if_pos,
    BitVec.getLsbD_eq_getElem hi]

/-- A word is its three fields (R70). -/
theorem cmdWord_fields (w : CmdWord) (h : rsvOf w = 0) : cmdWord (opcOf w) (argOf w) = w := by
  have e : opcOf w ++ (rsvOf w ++ argOf w) = w := by
    ext i hi
    simp only [opcOf, rsvOf, argOf, BitVec.getElem_append, BitVec.getElem_extractLsb']
    split
    · split
      · simp [BitVec.getLsbD_eq_getElem hi]
      · rw [show 10 + (i - 10) = i by omega, BitVec.getLsbD_eq_getElem hi]
    · rw [show 12 + (i - 12) = i by omega, BitVec.getLsbD_eq_getElem hi]
  rw [h] at e
  exact e

theorem decode_eq_some (w : CmdWord) (i : Instr) : decode w = some i ↔ decodeNamed w = .ok i := by
  unfold decode
  split <;> simp_all

theorem decode_eq_none (w : CmdWord) : decode w = none ↔ ∃ r, decodeNamed w = .error r := by
  unfold decode
  split <;> simp_all

theorem bare_ok (arg : Word10) (i j : Instr) : bare arg i = .ok j ↔ arg = 0 ∧ i = j := by
  unfold bare
  split <;> simp_all

end Sys2Proof
end

