-- ==== Sys2Proof/Laws/Ops.lean ====
section
/-! SUPPORT. What each shared operation can answer, once: provers cite these and do not unfold. -/

namespace Sys2Proof.Machine

@[simp] theorem perform_nil (s : State) : s.perform [] = s := rfl
@[simp] theorem perform_cons (f : State → State) (fs : SubSteps) (s : State) :
    s.perform (f :: fs) = (f s).perform fs := rfl
@[simp] theorem perform_append (fs gs : SubSteps) (s : State) :
    s.perform (fs ++ gs) = (s.perform fs).perform gs := List.foldl_append

/-- What every sub-step keeps, performing them keeps. -/
theorem perform_keeps (P : State → Prop) (fs : SubSteps) (s : State) (h : P s)
    (hf : ∀ f ∈ fs, ∀ t, P t → P (f t)) : P (s.perform fs) := by
  induction fs generalizing s with
  | nil => exact h
  | cons f fs ih =>
    exact ih (f s) (hf f (by simp) s h) (fun g hg => hf g (by simp [hg]))

theorem carryOut_of_halted (steps : State → SubSteps) (s : State) (h : s.halted = true) :
    s.carryOut steps = s.quiet := by
  simp [State.carryOut, h]

theorem carryOut_of_running (steps : State → SubSteps) (s : State) (h : s.halted = false) :
    s.carryOut steps = s.quiet.perform (steps s.quiet) := by
  simp [State.carryOut, h]

/-- A halted block ignores the command (R222). -/
theorem operate_of_halted (steps : State → SubSteps) (s : State) (h : s.halted = true) :
    operate steps s = .next s.quiet := by
  rw [operate, carryOut_of_halted steps s h]

/-- A block that is not halted performs the operation (R100). -/
theorem operate_of_running (steps : State → SubSteps) (s : State) (h : s.halted = false) :
    operate steps s = .next (s.quiet.perform (steps s.quiet)) := by
  rw [operate, carryOut_of_running steps s h]

/-- Everything the prologue can answer. -/
theorem operate_next (steps : State → SubSteps) (s t : State) (h : operate steps s = .next t) :
    (s.halted = true ∧ t = s.quiet) ∨
      (s.halted = false ∧ t = s.quiet.perform (steps s.quiet)) := by
  cases hh : s.halted
  · rw [operate_of_running steps s hh] at h
    exact .inr ⟨rfl, (Host.Outcome.next.inj h).symm⟩
  · rw [operate_of_halted steps s hh] at h
    exact .inl ⟨rfl, (Host.Outcome.next.inj h).symm⟩

/-- An operation's meaning is performing its sub-steps: what a reset abandons is part of what `exec` does. -/
theorem exec_eq_operate (i : Instr) (s : State) : exec i s = operate (subSteps i) s := by
  cases i <;> rfl

/-- The same of a word, legal or not. -/
theorem execWord_eq_operate (w : CmdWord) (s : State) : execWord w s = operate (wordSteps w) s := by
  unfold execWord wordSteps
  cases decode w with
  | none => rfl
  | some i => exact exec_eq_operate i s

@[simp] theorem quiet_quiet (s : State) : s.quiet.quiet = s.quiet := rfl
@[simp] theorem quiet_adcNext (s : State) : s.quiet.adcNext = s.adcNext := rfl
@[simp] theorem quiet_acqNext (s : State) : s.quiet.acqNext = s.acqNext := rfl

/-- `raise` after the prologue is the fault entry of R221, written out. -/
theorem quiet_raise (c : Cause) (s : State) : s.quiet.raise c = s.afterFault c := rfl

theorem needConfigured_of_configured (steps : State → SubSteps) (s : State)
    (h : s.configured = true) : needConfigured steps s = steps s := by
  simp [needConfigured, h]

theorem needConfigured_of_uninitialized (steps : State → SubSteps) (s : State)
    (h : s.configured = false) : needConfigured steps s = [State.raise .notConfigured] := by
  simp [needConfigured, h]

/-- The ditherer where the sum fits (R144). -/
theorem ditherStage_of_fits (v : Word10) (p : Phase) (k : Duty → SubSteps)
    (h : (ditherSum v p).toNat ≤ 255) :
    ditherStage v p k = State.setPhase (nextPhase p) :: k ((ditherSum v p).setWidth 8) := by
  simp [ditherStage, Config.pwmMax, Nat.not_lt.mpr h]

/-- The ditherer where it does not (R146). -/
theorem ditherStage_of_overflow (v : Word10) (p : Phase) (k : Duty → SubSteps)
    (h : 255 < (ditherSum v p).toNat) : ditherStage v p k = [State.raise .dutyOverflow] := by
  simp [ditherStage, Config.pwmMax, h]

theorem overflows_iff (v : Word10) (p : Phase) : overflows v p ↔ 255 < (ditherSum v p).toNat := by
  have := v.isLt
  have := ditherEntry_le (rem2 v) p
  rw [ditherSum_toNat, overflows]
  omega

/-- The 8-bit duty is the sum wherever it fits. -/
theorem duty_of_fits (v : Word10) (p : Phase) (h : (ditherSum v p).toNat ≤ 255) :
    ((ditherSum v p).setWidth 8).toNat = v.toNat / 4 + ditherEntry (rem2 v) p := by
  rw [← ditherSum_toNat]
  simp only [BitVec.toNat_setWidth]
  omega

theorem accept_nil (s : State) (h : s.inputs = []) : s.accept = none := by
  simp [State.accept, h]

theorem accept_cons (s : State) (i : Input) (rest : List Input) (h : s.inputs = i :: rest) :
    s.accept = some (i, s.setInputs rest) := by
  simp [State.accept, h]

/-- Everything a step looks at: the next input, or none. -/
theorem step_of_nil (s : State) (h : s.inputs = []) : step s = idle s := by
  simp [step, accept_nil s h]

theorem step_of_cons (s : State) (i : Input) (rest : List Input) (h : s.inputs = i :: rest) :
    step s = handle i (s.setInputs rest) := by
  simp [step, accept_cons s i rest h]

/-- No step reads the result or the record that the state carries: it answers the same whatever they are
(R39). -/
theorem step_ignores_result (s : State) (r : Option Word10) (m : List Moment) :
    step { s with res := r, trace := m } = step s := by
  obtain ⟨_, _, _, _, _, _, _, _, _, _, inputs, _, _, _, _⟩ := s
  cases inputs with
  | nil => rfl
  | cons i rest =>
    cases i with
    | cmd w => exact (execWord_eq_operate w _).trans (execWord_eq_operate w _).symm
    | rst during d o => cases during <;> rfl
    | hostTimerBits o => rfl
    | hostIntEnable on => rfl

/-- A run goes on the same from the state that holds no result (R39). -/
theorem step_withoutResult (s : State) : step s.withoutResult = step s :=
  step_ignores_result s none s.trace

/-- Everything the step in R39's form answers. -/
theorem stepReturning_of_next (s t : State) (h : step s = .next t) :
    stepReturning s = .next (t.withoutResult, t.res) := by
  rw [stepReturning, h]
  rfl

theorem regRead_of_large (s : State) (i : RegIndex) (h : 5 ≤ i.toNat) : s.regRead i = none := by
  unfold State.regRead
  split <;> first | rfl | omega

/-- No sub-step of any word changes the configuration, the host's interrupt enable or the inputs to come. -/
theorem wordSteps_sameSurroundings (w : CmdWord) (s : State) :
    ∀ f ∈ wordSteps w s, ∀ t : State, t.sameSurroundings (f t) := by
  have hd : ∀ v p k, (∀ d, ∀ f ∈ k d, ∀ t : State, t.sameSurroundings (f t)) →
      ∀ f ∈ ditherStage v p k, ∀ t : State, t.sameSurroundings (f t) := by
    intro v p k hk f hf t
    unfold ditherStage at hf
    split at hf
    · rw [List.mem_singleton.mp hf]; exact ⟨rfl, rfl, rfl⟩
    · rcases List.mem_cons.mp hf with rfl | hf
      · exact ⟨rfl, rfl, rfl⟩
      · exact hk _ f hf t
  intro f hf t
  unfold wordSteps at hf
  cases hw : decode w with
  | none => rw [hw] at hf; rw [List.mem_singleton.mp hf]; exact ⟨rfl, rfl, rfl⟩
  | some i =>
    rw [hw] at hf
    cases i <;> simp only [subSteps] at hf
    case init =>
      unfold initSteps at hf
      split at hf <;> simp [channelSteps, switchSteps] at hf
      · rw [hf]; exact ⟨rfl, rfl, rfl⟩
      · rcases hf with rfl | rfl | rfl | rfl | rfl | rfl | rfl <;> exact ⟨rfl, rfl, rfl⟩
      · rcases hf with rfl | rfl <;> exact ⟨rfl, rfl, rfl⟩
    case measure =>
      unfold needConfigured at hf
      split at hf <;> simp [measureSteps] at hf
      · rcases hf with rfl | rfl <;> exact ⟨rfl, rfl, rfl⟩
      · rw [hf]; exact ⟨rfl, rfl, rfl⟩
    case setduty d =>
      unfold needConfigured at hf
      split at hf <;> simp [setdutySteps] at hf <;> rw [hf] <;> exact ⟨rfl, rfl, rfl⟩
    case hyst raw => 
      simp [hystSteps] at hf
      rcases hf with rfl | rfl <;> exact ⟨rfl, rfl, rfl⟩
    case gamma v => rw [List.mem_singleton.mp hf]; exact ⟨rfl, rfl, rfl⟩
    case scale v => rw [List.mem_singleton.mp hf]; exact ⟨rfl, rfl, rfl⟩
    case dither v =>
      refine hd _ _ _ ?_ f hf t
      intro d g hg u
      rw [List.mem_singleton.mp hg]; exact ⟨rfl, rfl, rfl⟩
    case rdreg i3 =>
      unfold rdregSteps at hf
      split at hf <;> rw [List.mem_singleton.mp hf] <;> exact ⟨rfl, rfl, rfl⟩
    case iter =>
      unfold needConfigured at hf
      split at hf
      · simp only [iterSteps, List.mem_append, List.mem_cons, List.not_mem_nil, or_false] at hf
        rcases hf with (rfl | rfl) | hf
        · exact ⟨rfl, rfl, rfl⟩
        · exact ⟨rfl, rfl, rfl⟩
        · refine hd _ _ _ ?_ f hf t
          intro d g hg u
          simp at hg
          rcases hg with rfl | rfl <;> exact ⟨rfl, rfl, rfl⟩
      · rw [List.mem_singleton.mp hf]; exact ⟨rfl, rfl, rfl⟩

/-- A block part way through an operation has the surroundings it had before (R240). -/
theorem partWay_sameSurroundings (a : Abandoned) (s : State) : s.sameSurroundings (s.partWay a) := by
  unfold State.partWay State.carryOut
  split
  · exact ⟨rfl, rfl, rfl⟩
  · refine perform_keeps (fun t => s.sameSurroundings t) _ _ ⟨rfl, rfl, rfl⟩ ?_
    intro f hf t ⟨h1, h2, h3⟩
    obtain ⟨g1, g2, g3⟩ := wordSteps_sameSurroundings _ _ f (List.mem_of_mem_take hf) t
    exact ⟨g1.trans h1, g2.trans h2, g3.trans h3⟩

/-- A count of sub-steps beyond the last is the whole operation: the reset then lands at its end. -/
theorem partWay_of_complete (a : Abandoned) (s : State)
    (h : (wordSteps a.word s.quiet).length ≤ a.subSteps) :
    execWord a.word s = .next (s.partWay a) := by
  rw [execWord_eq_operate, operate, State.partWay, State.carryOut, State.carryOut,
    List.take_of_length_le h]

/-- Everything a reset request can answer (R240): the block as it was found, put at its reset values. -/
theorem resetRequest_eq (during : Option Abandoned) (d : Duty) (o : BitVec 6) (s : State) :
    ∃ u, resetRequest during d o s = .next (u.resetTo d o) ∧ s.sameSurroundings u ∧
      (during = none → u = s.quiet) ∧ (∀ a, during = some a → u = s.partWay a) := by
  cases during with
  | none => exact ⟨s.quiet, rfl, ⟨rfl, rfl, rfl⟩, fun _ => rfl, by simp⟩
  | some a =>
    refine ⟨s.partWay a, rfl, partWay_sameSurroundings a s, by simp, ?_⟩
    intro b hb
    cases hb
    rfl

end Sys2Proof.Machine
end

