-- ==== Sys2Proof/Laws/PerInstr.lean ====
section
/-! SUPPORT. Statements about every operation as syntax, one lemma per constructor. -/

namespace Sys2Proof.Laws

/-- The operation code of each row of R73. -/
def opcode : Instr → BitVec 4
  | .init => 0x1
  | .measure => 0x2
  | .hyst _ => 0x3
  | .gamma _ => 0x4
  | .scale _ => 0x5
  | .dither _ => 0x6
  | .setduty _ => 0x7
  | .rdreg _ => 0x8
  | .iter => 0x9

/-- The word of an operation has its row's `OPC` and a zero `RSV` (R70, R73). -/
def Header.Statement (i : Instr) : Prop := opcOf (encode i) = opcode i ∧ rsvOf (encode i) = 0

theorem Header.init : Header.Statement .init := by simp [Header.Statement, encode, opcode]
theorem Header.measure : Header.Statement .measure := by simp [Header.Statement, encode, opcode]
theorem Header.hyst (raw : Word10) : Header.Statement (.hyst raw) := by
  simp [Header.Statement, encode, opcode]
theorem Header.gamma (v : Word10) : Header.Statement (.gamma v) := by
  simp [Header.Statement, encode, opcode]
theorem Header.scale (v : Word10) : Header.Statement (.scale v) := by
  simp [Header.Statement, encode, opcode]
theorem Header.dither (v : Word10) : Header.Statement (.dither v) := by
  simp [Header.Statement, encode, opcode]
theorem Header.setduty (d : Duty) : Header.Statement (.setduty d) := by
  simp [Header.Statement, encode, opcode]
theorem Header.rdreg (i : RegIndex) : Header.Statement (.rdreg i) := by
  simp [Header.Statement, encode, opcode]
theorem Header.iter : Header.Statement .iter := by simp [Header.Statement, encode, opcode]

end Sys2Proof.Laws
end

