-- ==== Sys2Proof/Tests/Slice0.lean ====
section
/-! SUPPORT. Tests whose expected values come from spec/95_test_vectors.md and the rules' own examples, and
for every statement with hypotheses a witness that meets them all. -/

namespace Sys2Proof.Tests

open Sys2Proof.Machine

/-- The reset state of 95_test_vectors.md: `DUTY_RESET = 90`, `TCR_OTHER_RESET = 0b101010`, cap 80. -/
def atReset : State where
  tracked := 0
  phase := 0
  duty := 90
  tcr := 0xA8
  status := 0
  irqLock := false
  res := none
  hostIntEnable := true
  percentCap := 80
  trace := []
  inputs := []
  adcIn := []
  conversions := 0
  acqIn := []
  acqSamples := 0

/-- The state after a successful `INIT` (vector V-P1). -/
def afterInit : State := { atReset with duty := 255, tcr := 0xAB, status := 1 }

/-- A halted state: V-F1's. -/
def haltedState : State := { atReset with status := 6 }

/-- The next state of an answer. -/
def stateOf (a : Answer) : Option State :=
  match a with
  | .next s => some s
  | .fault _ => none
  | .refused _ => none

/-- `T`, `P`, `D`, `TCR`, `ST` and `RES` of an answer. -/
def row (a : Answer) : Option (Nat × Nat × Nat × Nat × Nat × Option Nat) :=
  (stateOf a).map fun s =>
    (s.tracked.toNat, s.phase.toNat, s.duty.toNat, s.tcr.toNat, s.status.toNat, s.res.map (·.toNat))

/-! ## Well-formedness: an ill-formed term for the one check -/

theorem test_wellFormed_refuses_rdreg5 : (Instr.rdreg 5).wellFormed = false := by decide
theorem test_wellFormed_takes_rdreg4 : (Instr.rdreg 4).wellFormed = true := by decide

/-! ## Decoding: words written out from R73 (V-X) -/

theorem test_decode_init : decode 0b0001_00_0000000000#16 = some .init := by decide
theorem test_decode_measure : decode 0b0010_00_0000000000#16 = some .measure := by decide
theorem test_decode_hyst : decode 0b0011_00_1111111111#16 = some (.hyst 1023) := by decide
theorem test_decode_gamma : decode 0b0100_00_1000000000#16 = some (.gamma 512) := by decide
theorem test_decode_scale : decode 0b0101_00_0000000001#16 = some (.scale 1) := by decide
theorem test_decode_dither : decode 0b0110_00_1100110010#16 = some (.dither 818) := by decide
theorem test_decode_setduty : decode 0b0111_00_00_11111111#16 = some (.setduty 255) := by decide
theorem test_decode_rdreg : decode 0b1000_00_0000000_100#16 = some (.rdreg 4) := by decide
theorem test_decode_iter : decode 0b1001_00_0000000000#16 = some .iter := by decide

theorem test_decode_names_reserved : decodeNamed 0x3400#16 = .error .reservedBits := by rfl
theorem test_decode_names_opcode : decodeNamed 0xA000#16 = .error .opcode := by rfl
theorem test_decode_names_operand : decodeNamed 0x1001#16 = .error .operandNotZero := by rfl
theorem test_decode_names_duty : decodeNamed 0x7100#16 = .error .dutyAbove255 := by rfl
theorem test_decode_names_index : decodeNamed 0x8005#16 = .error .registerIndex := by rfl

theorem test_table_word_runs_first :
    (stateOf (step (State.reset.withFetchWord 16 0x3069))).map (·.tracked) = some 104 := by decide

/-! ## One step of each operation -/

/-- V-P1. -/
theorem test_init : row (exec .init { atReset with acqIn := [true] }) =
    some (0, 0, 255, 0xAB, 1, none) := by decide
/-- V-P1: the intermediate states, `irq_lock` asserted around the last update alone. -/
theorem test_init_moments :
    (stateOf (exec .init { atReset with acqIn := [true] })).map
      (fun s => s.trace.map (fun m => (m.duty.toNat, m.tcr.toNat, m.irqLock))) =
    some [(90, 0xA9, false), (255, 0xA9, false), (255, 0xA9, true), (255, 0xAB, true)] := by decide
/-- R101's example. -/
theorem test_measure : row (exec .measure { afterInit with adcIn := [512] }) =
    some (0, 0, 255, 0xAB, 1, some 512) := by decide
/-- V-F4. -/
theorem test_measure_before_init : row (exec .measure atReset) =
    some (0, 0, 90, 0xA8, 14, none) := by decide
/-- V-H18. -/
theorem test_hyst_rise : row (exec (.hyst 513) { atReset with tracked := 511 }) =
    some (512, 0, 90, 0xA8, 0, some 512) := by decide
/-- V-H21. -/
theorem test_hyst_hold_top : row (exec (.hyst 1023) { atReset with tracked := 1022 }) =
    some (1022, 0, 90, 0xA8, 0, some 1022) := by decide
/-- V-G17: a divisor of 1024 would give 1018. -/
theorem test_gamma : row (exec (.gamma 1021) atReset) = some (0, 0, 90, 0xA8, 0, some 1019) := by decide
/-- V-G3. -/
theorem test_gamma_low : row (exec (.gamma 31) atReset) = some (0, 0, 90, 0xA8, 0, some 0) := by decide
/-- V-S14 at cap 80. -/
theorem test_scale : row (exec (.scale 1023) atReset) = some (0, 0, 90, 0xA8, 0, some 818) := by decide
/-- V-S13 at cap 99. -/
theorem test_scale_99 : row (exec (.scale 1021) { atReset with percentCap := 99 }) =
    some (0, 0, 90, 0xA8, 0, some 1010) := by decide
/-- V-D18. -/
theorem test_dither_wraps : row (exec (.dither 5) { atReset with phase := 3 }) =
    some (0, 0, 90, 0xA8, 0, some 1) := by decide
/-- V-F6. -/
theorem test_dither_overflows : row (exec (.dither 1023) atReset) =
    some (0, 0, 90, 0xA8, 18, none) := by decide
/-- V-P2. -/
theorem test_setduty : row (exec (.setduty 205) afterInit) = some (0, 0, 50, 0xAB, 1, none) := by decide
/-- V-F3. -/
theorem test_setduty_before_init : row (exec (.setduty 10) atReset) =
    some (0, 0, 90, 0xA8, 14, none) := by decide
/-- V-P3. -/
theorem test_rdreg_tcr : row (exec (.rdreg 3) afterInit) = some (0, 0, 255, 0xAB, 1, some 171) := by decide
/-- V-P3. -/
theorem test_rdreg_duty : row (exec (.rdreg 2) atReset) = some (0, 0, 90, 0xA8, 0, some 90) := by decide
/-- R190's example. -/
theorem test_iter :
    row (exec .iter { afterInit with tracked := 511, phase := 1, adcIn := [513] }) =
    some (512, 2, 204, 0xAB, 1, some 51) := by decide
/-- R39 with R190's example: the result is the return value, and the state beside it holds none. -/
theorem test_result_is_returned :
    (match stepReturning { afterInit with
        tracked := 511, phase := 1, adcIn := [513], inputs := [.cmd 0x9000] } with
      | .next (t, r) => some (t.res, t.duty.toNat, r)
      | .fault _ => none
      | .refused _ => none) = some (none, 204, some 51) := by decide
/-- V-F7. -/
theorem test_iter_overflows :
    row (exec .iter { afterInit with percentCap := 100, adcIn := [1023] }) =
    some (1022, 0, 255, 0xAB, 19, none) := by decide

/-- V-F11: the decode fault comes before `NOT_CONFIGURED`. -/
theorem test_illegal_word : row (step { atReset with inputs := [.cmd 0x7100] }) =
    some (0, 0, 90, 0xA8, 22, none) := by decide
/-- V-F17: `REINIT` before `ACQ_FAIL`. -/
theorem test_reinit_first : row (exec .init { afterInit with acqIn := [false] }) =
    some (0, 0, 255, 0xAB, 11, none) := by decide
/-- P4: a halted block ignores `INIT`. -/
theorem test_halted_ignores : row (step { atReset with status := 14, inputs := [.cmd 0x1000] }) =
    some (0, 0, 90, 0xA8, 14, none) := by decide
/-- R240. -/
theorem test_reset_request : row (step { haltedState with tracked := 9, inputs := [.rst none 7 0b000001] }) =
    some (0, 0, 7, 4, 0, none) := by decide
/-- R163 and R240: `INIT` abandoned after its sub-step 2 has shown both intermediate states, and the registers
are the reset values all the same. -/
theorem test_reset_inside_init :
    (stateOf (step { atReset with
      acqIn := [true], inputs := [.rst (some ⟨0x1000, 3⟩) 7 0b000001] })).map
      (fun s => (s.trace.map (fun m => (m.duty.toNat, m.tcr.toNat)), s.duty.toNat, s.tcr.toNat,
        s.status.toNat)) =
    some ([(90, 0xA9), (255, 0xA9)], 7, 4, 0) := by decide
/-- R190 and R240: `ITER` abandoned after its conversion, before any register is written. -/
theorem test_reset_inside_iter :
    (stateOf (step { afterInit with
      adcIn := [513], inputs := [.rst (some ⟨0x9000, 1⟩) 7 0b000001] })).map
      (fun s => (s.conversions, s.adcIn, s.tracked.toNat, s.phase.toNat, s.duty.toNat)) =
    some (1, [], 0, 0, 7) := by decide

/-! ## Assembler text (R78, R79) -/

theorem test_asm_hyst : assembleLine ['H', 'Y', 'S', 'T', ' ', '5', '1', '2'] = .word 0x3200 := by decide
theorem test_asm_out_of_range :
    assembleLine ['S', 'E', 'T', 'D', 'U', 'T', 'Y', ' ', '2', '5', '6'] = .error := by decide
theorem test_asm_comment : assembleLine ['I', 'T', 'E', 'R', ' ', ';', 'x'] = .word 0x9000 := by decide
theorem test_asm_directive :
    assembleLine ['.', 'w', 'o', 'r', 'd', ' ', '0', 'x', '3', '4', '0', '0'] = .word 0x3400 := by decide

/-! ## Witnesses: a concrete state and operands that meet the hypotheses of each statement -/

/-- Running and Configured, with a draw at hand: MeasureReturnsOneDraw, IterRunsItsSixStages,
SetdutyStoresTheInvertedDuty, InversionIsItsOwnInverse, IterEqualsTheSixOperations (first clauses). -/
theorem witness_running_configured :
    afterInit.halted = false ∧ afterInit.configured = true ∧
    State.adcIn { afterInit with adcIn := [1023] } = 1023 :: [] := by decide

/-- Running and Uninitialized: the NOT_CONFIGURED clauses of the same statements, HystUpdatesTracked,
GammaDrivesTheFloorOfTheSquare, ScaleDrivesTheCappedValue, TrackerFollowsTheSample,
DitherOverflowsForSixPairs. -/
theorem witness_running_uninitialized : atReset.halted = false ∧ atReset.configured = false := by decide

/-- StepRunsTheDecodedOperation, first clause. -/
theorem witness_StepRunsTheDecodedOperation :
    State.inputs { atReset with inputs := [.cmd 0x9000] } = .cmd 0x9000 :: [] ∧
    decode 0x9000 = some .iter ∧ Instr.iter.wellFormed = true := by decide

/-- DecodeAndEncodeAreInverse: both directions, at the largest index a word has. -/
theorem witness_DecodeAndEncodeAreInverse :
    (Instr.rdreg 4).wellFormed = true ∧ decode 0x8004 = some (.rdreg 4) := by decide

/-- HystEqualsItsUnsaturatedForm: each clause at a boundary. -/
theorem witness_HystEqualsItsUnsaturatedForm :
    (1023#10).toNat = (1022#10).toNat + 1 ∧ (1023#10).toNat > (1021#10).toNat + 1 ∧
    (1022#10).toNat < (1023#10).toNat := by decide

/-- HystIsAsymmetric. -/
theorem witness_HystIsAsymmetric : (1023#10).toNat = (1022#10).toNat + 1 := by decide

/-- SteadyInputSettlesInOneStep. -/
theorem witness_SteadyInputSettlesInOneStep :
    atReset.halted = false ∧
    State.inputs { atReset with inputs := [.cmd 0x312C, .cmd 0x312C] } =
      commands (List.replicate (1 + 1) (.hyst 300)) ++ [] := by decide

/-- GammaIsMonotonicAndBounded, ScaleIsMonotonicAndBounded, PowerCappedIsBounded. -/
theorem witness_mapper_orders :
    (1022#10).toNat ≤ (1023#10).toNat ∧ (99 : Config.Cap).val ≤ (100 : Config.Cap).val ∧
    (1022#10).toNat ≤ 1022 := by decide

/-- DitherProducesOneFrame: the largest sum that fits, and the one that does not. -/
theorem witness_DitherProducesOneFrame :
    atReset.halted = false ∧ (3#2).toNat = (1019#10).toNat % 4 ∧
    255 = (1019#10).toNat / 4 + ditherEntry 3#2 atReset.phase ∧
    (1#2).toNat = (1021#10).toNat % 4 ∧
    (1021#10).toNat / 4 + ditherEntry 1#2 atReset.phase > 255 := by decide

/-- FourFramesReconstructTheValue: the last value of the first clause, the first of the second. -/
theorem witness_FourFramesReconstructTheValue :
    atReset.halted = false ∧ (1020#10).toNat ≤ 1020 ∧ 1021 ≤ (1021#10).toNat ∧
    State.inputs { atReset with inputs := [.cmd 0x63FD, .cmd 0x63FD, .cmd 0x63FD, .cmd 0x63FD] } =
      commands (List.replicate 4 (.dither 1021)) ++ [] := by decide

/-- PhaseCountsFrames. -/
theorem witness_PhaseCountsFrames :
    atReset.halted = false ∧ (∀ v ∈ [0#10, 1020#10], v.toNat ≤ 1020) ∧
    State.inputs { atReset with inputs := [.cmd 0x6000, .cmd 0x63FC] } =
      commands ([0#10, 1020#10].map Instr.dither) ++ [] := by decide

/-- InitConfiguresTheChannel, InitFaultsBeforeAnyWrite (second clause). -/
theorem witness_init_answers :
    State.acqNext { atReset with acqIn := [true] } = true ∧
    State.acqNext { atReset with acqIn := [false] } = false := by decide

/-- The invariant holds of the vector states: InitShowsTwoIntermediateStates, StepKeepsTheInvariant. -/
theorem witness_atReset_inv : BlockInv { atReset with acqIn := [true] } :=
  ⟨by decide, by decide, by decide, by decide, by decide, by decide, by decide⟩
/-- The invariant in a Configured state: StatusReadsAsTheDriverState. -/
theorem witness_afterInit_inv : BlockInv afterInit :=
  ⟨by decide, by decide, by decide, by decide, by decide, by decide, by decide⟩
/-- The invariant in a halted state: StepKeepsTheInvariant. -/
theorem witness_haltedState_inv : BlockInv haltedState :=
  ⟨by decide, by decide, by decide, by decide, by decide, by decide, by decide⟩

/-- InitShowsTwoIntermediateStates, beside witness_atReset_inv. -/
theorem witness_InitShowsTwoIntermediateStates :
    State.hostIntEnable { atReset with acqIn := [true] } = true ∧
    State.halted { atReset with acqIn := [true] } = false ∧
    State.configured { atReset with acqIn := [true] } = false ∧
    State.acqNext { atReset with acqIn := [true] } = true := by decide

/-- RdregReadsTheRegisterSpace and RdregOfUnimplementedIndexFaults: where their clauses meet. -/
theorem witness_rdreg_indices :
    (0#3).toNat = 0 ∧ (4#3).toNat ≤ 4 ∧ 5 ≤ (5#3).toNat ∧ 5 ≤ (7#3).toNat ∧
    0x8005 ≤ (0x8005#16).toNat ∧ (0x83FF#16).toNat ≤ 0x83FF := by decide

/-- SetdutyStoresTheInvertedDuty: the first and the last word of its clause on illegal words. -/
theorem witness_setduty_words : 0x7100 ≤ (0x7100#16).toNat ∧ (0x73FF#16).toNat ≤ 0x73FF := by decide

/-- IterRunsItsSixStages: a sum of 255 and a sum of 256. -/
theorem witness_IterRunsItsSixStages :
    scale 100 (gamma (hyst 1023 1022)) = 1021#10 ∧ (1#2).toNat = (1021#10).toNat % 4 ∧
    (1021#10).toNat / 4 + ditherEntry 1#2 1#2 = 255 ∧
    (1021#10).toNat / 4 + ditherEntry 1#2 0#2 = 256 := by decide

/-- IterIsTotalBelowFullCap, at its largest cap. -/
theorem witness_IterIsTotalBelowFullCap :
    State.halted { afterInit with percentCap := 99 } = false ∧
    State.configured { afterInit with percentCap := 99 } = true ∧
    (State.percentCap { afterInit with percentCap := 99 }).val ≤ 99 := by decide

/-- IterOverflowsOnlyAtFullCap, at the largest tracked value. -/
theorem witness_IterOverflowsOnlyAtFullCap : State.launched { afterInit with tracked := 1022 } :=
  ⟨by decide, by decide, by decide⟩

/-- PotentiometerAtZeroKeepsTheLampOff. -/
theorem witness_PotentiometerAtZeroKeepsTheLampOff :
    afterInit.tracked = 0#10 ∧ State.adcNext { afterInit with adcIn := [0] } = 0#10 := by decide

/-- LoopNeverFaultsBelowFullCap, beside witness_IterOverflowsOnlyAtFullCap. -/
theorem witness_LoopNeverFaultsBelowFullCap :
    afterInit.percentCap.val ≤ 99 ∧
    State.inputs { afterInit with inputs := [.cmd 0x9000, .cmd 0x9000] } =
      commands (List.replicate 2 .iter) ++ [] := by decide

/-- IllegalWordFaults, FaultChecksInFixedOrder (second clause). -/
theorem witness_IllegalWordFaults :
    State.inputs { atReset with inputs := [.cmd 0xFFFF] } = .cmd 0xFFFF :: [] ∧
    decode 0xFFFF = none ∧ State.halted { atReset with inputs := [.cmd 0xFFFF] } = false := by decide

/-- HaltedBlockIsInert, HaltedBlockIgnoresEveryOperation, FaultChecksInFixedOrder (first clause). -/
theorem witness_HaltedBlockIsInert :
    haltedState.halted = true ∧
    State.inputs { haltedState with inputs := [.cmd 0x8004] } = .cmd 0x8004 :: [] := by decide

/-- CausesHaveTheirCodes, FaultLeavesTheRegisters: an operation that faults. -/
theorem witness_FaultLeavesTheRegisters :
    exec (.dither 1023) atReset = .next (atReset.afterFault .dutyOverflow) ∧
    (atReset.afterFault .dutyOverflow).halted = true := ⟨rfl, by decide⟩

/-- CausesHaveTheirCodes (third clause): a word that faults. -/
theorem witness_CausesHaveTheirCodes :
    step { atReset with inputs := [.cmd 0x63FF] } = .next (atReset.afterFault .dutyOverflow) := rfl

/-- FaultChecksInFixedOrder: what the condition of the second clause says of one word. -/
theorem witness_FaultChecksInFixedOrder : wordRaises 0x700A .notConfigured atReset :=
  ⟨rfl, by decide⟩

/-- OnlyResetLeavesHalted, HaltedBlockIsInert (second clause): a halted state and its step. -/
theorem witness_OnlyResetLeavesHalted :
    haltedState.halted = true ∧ step haltedState = .next haltedState.quiet ∧
    haltedState.inputs.head? = none := ⟨by decide, rfl, rfl⟩

/-- OnlyResetLeavesConfigured, OtherTimerBitsArePreserved, PowerCapIsConstant (one step): a step. -/
theorem witness_OnlyResetLeavesConfigured :
    afterInit.configured = true ∧ step afterInit = .next afterInit.quiet ∧
    Host.Core.run core 1 afterInit = .next afterInit.quiet := ⟨by decide, rfl, rfl⟩

/-- OperationsWriteOnlyTheirRegisters, DrawsHappenExactlyOnce: an operation and its next state. -/
theorem witness_OperationsWriteOnlyTheirRegisters :
    exec .measure afterInit = .next (afterInit.quiet.perform (measureSteps afterInit.quiet)) ∧
    afterInit.halted = false ∧ afterInit.configured = true := ⟨rfl, by decide, by decide⟩

/-- OldDutyAndOtherBitsAreNotSeen: the same operation in two states. -/
theorem witness_OldDutyAndOtherBitsAreNotSeen :
    (∀ i3, Instr.hyst 5 ≠ .rdreg i3) ∧
    exec (.hyst 5) atReset = .next (atReset.quiet.perform (hystSteps 5 atReset.quiet)) ∧
    exec (.hyst 5) (State.setOther 1 { atReset with duty := 3 }) =
      .next ((State.setOther 1 { atReset with duty := 3 }).quiet.perform
        (hystSteps 5 (State.setOther 1 { atReset with duty := 3 }).quiet)) :=
  ⟨by decide, rfl, rfl⟩

/-- IdleAndHostInputsTouchNothingElse and ResetRestoresEveryRegister: an input of each kind. -/
theorem witness_inputs :
    atReset.inputs = [] ∧
    State.inputs { atReset with inputs := [.hostTimerBits 63] } = .hostTimerBits 63 :: [] ∧
    State.inputs { atReset with inputs := [.hostIntEnable false] } = .hostIntEnable false :: [] ∧
    State.inputs { haltedState with inputs := [.rst none 255 63] } = .rst none 255 63 :: [] := by decide

/-- ResetRestoresEveryRegister: its second clause on a halted block with a word presented, its third at each
count where the moments change, its fourth on both words and both sides of the conversion. -/
theorem witness_ResetRestoresEveryRegister :
    State.inputs { haltedState with inputs := [.rst (some ⟨0x1000, 1⟩) 255 63] } =
      .rst (some ⟨0x1000#16, 1⟩) 255 63 :: [] ∧
    haltedState.halted = true ∧
    State.acqNext { atReset with acqIn := [true] } = true ∧
    atReset.halted = false ∧ atReset.configured = false ∧ (1 ≤ 1 ∧ 2 = 2 ∧ 3 = 3) ∧
    State.inputs { afterInit with inputs := [.rst (some ⟨0x2000, 0⟩) 255 63] } =
      .rst (some ⟨0x2000#16, 0⟩) 255 63 :: [] ∧
    State.inputs { afterInit with inputs := [.rst (some ⟨0x9000, 1⟩) 255 63] } =
      .rst (some ⟨0x9000#16, 1⟩) 255 63 :: [] ∧
    afterInit.halted = false ∧ afterInit.configured = true := by decide

/-- StartUpReachesTheSteadyState, from a halted state. -/
theorem witness_StartUpReachesTheSteadyState :
    State.inputs { haltedState with inputs := [.rst none 90 42, .cmd 0x1000], acqIn := [true] } =
      .rst none 90 42 :: .cmd 0x1000#16 :: [] ∧
    State.acqNext { haltedState with
      inputs := [.rst none 90 42, .cmd 0x1000], acqIn := [true] } = true := by
  decide

/-- StartUpReachesTheSteadyState, second clause: an `INIT` abandoned after its sub-step 1, which has sampled
`ACQ_OK` once, and the next sample true. -/
theorem witness_StartUp_after_abandoned_init :
    (stateOf (step { atReset with
      inputs := [.rst (some ⟨0x1000, 2⟩) 90 42, .cmd 0x1000]
      acqIn := [true, true] })).map State.acqNext = some true := by decide

/-- CapsAbove100AreRefused: the two sides of the bound. -/
theorem witness_CapsAbove100AreRefused : 100 ≤ 100 ∧ 100 < 101 := by decide

end Sys2Proof.Tests
end

section
/-! What the steps and the runs of the core keep: lemmas shared by the proofs of invariants. -/

namespace Sys2Proof.Machine

/-- An invariant of `step` is an invariant of every run: the one induction over the number of steps. -/
theorem run_keeps (P : State → Prop) (hstep : ∀ s t, step s = .next t → P s → P t) (n : Nat)
    (s t : State) (hrun : Host.Core.run core n s = .next t) (hs : P s) : P t := by
  induction n generalizing s with
  | zero =>
    obtain rfl := Host.Outcome.next.inj hrun
    exact hs
  | succ n ih =>
    simp only [Host.Core.run] at hrun
    split at hrun
    case h_1 u hu => exact ih u hrun (hstep s u hu hs)
    all_goals cases hrun

/-- A whole word is the operation abandoned after its last sub-step, so it has the surroundings it found. -/
theorem execWord_sameSurroundings (w : CmdWord) (s t : State) (h : execWord w s = .next t) :
    s.sameSurroundings t := by
  have hall := partWay_of_complete ⟨w, (wordSteps w s.quiet).length⟩ s le_rfl
  obtain rfl := Host.Outcome.next.inj (hall.symm.trans h)
  exact partWay_sameSurroundings _ s

/-- R37, input by input: commands and resets keep the surroundings, and the host has no access to the cap. -/
theorem handle_percentCap (i : Input) (s t : State) (h : handle i s = .next t) :
    t.percentCap = s.percentCap := by
  cases i with
  | cmd w => exact (execWord_sameSurroundings w s t h).1
  | rst during d o =>
    obtain ⟨u, hu, hsame, -, -⟩ := resetRequest_eq during d o s
    obtain rfl := Host.Outcome.next.inj (hu.symm.trans h)
    exact hsame.1
  | hostTimerBits o =>
    obtain rfl := Host.Outcome.next.inj h
    rfl
  | hostIntEnable on =>
    obtain rfl := Host.Outcome.next.inj h
    rfl

theorem step_percentCap (s t : State) (h : step s = .next t) : t.percentCap = s.percentCap := by
  cases hin : s.inputs with
  | nil =>
    rw [step_of_nil s hin] at h
    obtain rfl := Host.Outcome.next.inj h
    exact quiet_percentCap s
  | cons i rest =>
    rw [step_of_cons s i rest hin] at h
    exact (handle_percentCap i (s.setInputs rest) t h).trans (setInputs_percentCap s rest)

theorem admitCap_of_le (n : Nat) (h : n ≤ 100) : admitCap n = .ok ⟨n, Nat.lt_succ_of_le h⟩ :=
  dif_pos h

theorem admitCap_of_gt (n : Nat) (h : 100 < n) : admitCap n = .error (.capAbove100 n) :=
  dif_neg (Nat.not_le.mpr h)

end Sys2Proof.Machine
end

section
/-! The obligations of spec/00_scope.md. -/

namespace Sys2Proof.Machine

/-- Settles O50: no step changes the cap, so no run does. -/
theorem powerCapIsConstant : Obligations.PowerCapIsConstant := by
  intro n s t hrun
  exact run_keeps (fun u => u.percentCap = s.percentCap)
    (fun u v hstep hu => (step_percentCap u v hstep).trans hu) n s t hrun rfl

/-- Settles O60, by the two sides of the test in `admitCap`. -/
theorem capsAbove100AreRefused : Obligations.CapsAbove100AreRefused := by
  intro n
  constructor
  · intro hle
    exact ⟨_, admitCap_of_le n hle, rfl⟩
  · exact admitCap_of_gt n

end Sys2Proof.Machine
end

section
/-! What an operation does, once: the paths of its pseudocode on a running block, and what the step's inversion
gives. Later proofs split along these paths instead of unfolding the sub-steps. -/

namespace Sys2Proof.Machine

theorem initSteps_of_configured (s : State) (h : s.configured = true) :
    initSteps s = [State.raise .reinit] := by
  simp [initSteps, h]

theorem initSteps_of_acqOk (s : State) (h : s.configured = false) (ha : s.acqNext = true) :
    initSteps s = State.sampleAcq :: channelSteps ++ switchSteps ++ [State.setConfigured] := by
  simp [initSteps, h, ha]

theorem initSteps_of_acqFail (s : State) (h : s.configured = false) (ha : s.acqNext = false) :
    initSteps s = [State.sampleAcq, State.raise .acqFail] := by
  simp [initSteps, h, ha]

theorem rdregSteps_of_some (i : RegIndex) (s : State) (v : Word10) (h : s.regRead i = some v) :
    rdregSteps i s = [State.drive v] := by
  simp [rdregSteps, h]

theorem rdregSteps_of_none (i : RegIndex) (s : State) (h : s.regRead i = none) :
    rdregSteps i s = [State.raise .illegalCmd] := by
  simp [rdregSteps, h]

/-- The ditherer of `ITER` gets `iterOperand` (R190). -/
theorem iterSteps_eq (s : State) :
    iterSteps s = [State.convert, State.track s.adcNext] ++ ditherStage s.iterOperand s.phase
      (fun d => [State.program d, State.drive (d.setWidth 10)]) := rfl

/-- Sub-steps 1 to 3 of `INIT` (R161): all of it but the sample of `ACQ_OK` and the write of `CONFIGURED`. -/
def State.configureChannel (s : State) : State := s.perform (channelSteps ++ switchSteps)

/-- The sub-steps written out, so that the laws of the single updates apply. -/
theorem configureChannel_eq (s : State) :
    s.configureChannel =
      ((s.setPwmEn.observe.setDuty 255#8).observe.setIrqLock true).observe.setInv.observe.setIrqLock
        false := rfl

section
variable (s : State)

@[simp] theorem configureChannel_tracked : s.configureChannel.tracked = s.tracked := by
  simp [configureChannel_eq]

@[simp] theorem configureChannel_phase : s.configureChannel.phase = s.phase := by
  simp [configureChannel_eq]

@[simp] theorem configureChannel_duty : s.configureChannel.duty = 255#8 := by
  simp [configureChannel_eq]

@[simp] theorem configureChannel_status : s.configureChannel.status = s.status := by
  simp [configureChannel_eq]

@[simp] theorem configureChannel_irqLock : s.configureChannel.irqLock = false := by
  simp [configureChannel_eq]

@[simp] theorem configureChannel_res : s.configureChannel.res = s.res := by
  simp [configureChannel_eq]

@[simp] theorem configureChannel_hostIntEnable : s.configureChannel.hostIntEnable = s.hostIntEnable := by
  simp [configureChannel_eq]

@[simp] theorem configureChannel_percentCap : s.configureChannel.percentCap = s.percentCap := by
  simp [configureChannel_eq]

@[simp] theorem configureChannel_inputs : s.configureChannel.inputs = s.inputs := by
  simp [configureChannel_eq]

@[simp] theorem configureChannel_halted : s.configureChannel.halted = s.halted := by
  simp [configureChannel_eq]

@[simp] theorem configureChannel_cause : s.configureChannel.cause = s.cause := by
  simp [configureChannel_eq]

@[simp] theorem configureChannel_pwmEn : s.configureChannel.pwmEn = true := by
  simp [configureChannel_eq]

@[simp] theorem configureChannel_inv : s.configureChannel.inv = true := by
  simp [configureChannel_eq]

@[simp] theorem configureChannel_other : s.configureChannel.other = s.other := by
  simp [configureChannel_eq]

end

/-- `RunsTo i s t`: on a running block the operation `i` leads from `s` to `t`. One constructor for each path
of the operation's pseudocode, under the condition that selects the path. -/
inductive RunsTo : Instr → State → State → Prop where
  /-- R214: `MEASURE`, `SETDUTY` and `ITER` need a Configured driver. -/
  | notConfigured {i : Instr} {s : State} (steps : State → SubSteps)
      (hi : subSteps i = needConfigured steps) (hc : s.configured = false) :
      RunsTo i s (s.quiet.raise .notConfigured)
  /-- R213. -/
  | reinit {s : State} (hc : s.configured = true) : RunsTo .init s (s.quiet.raise .reinit)
  /-- R211. -/
  | acqFail {s : State} (hc : s.configured = false) (ha : s.acqNext = false) :
      RunsTo .init s (s.quiet.sampleAcq.raise .acqFail)
  /-- R161. -/
  | init {s : State} (hc : s.configured = false) (ha : s.acqNext = true) :
      RunsTo .init s s.quiet.sampleAcq.configureChannel.setConfigured
  /-- R101. -/
  | measure {s : State} (hc : s.configured = true) :
      RunsTo .measure s (s.quiet.convert.drive s.adcNext)
  /-- R104. -/
  | hyst {s : State} (raw : Word10) :
      RunsTo (.hyst raw) s ((s.quiet.track raw).drive (Machine.hyst raw s.tracked))
  /-- R121. -/
  | gamma {s : State} (v : Word10) : RunsTo (.gamma v) s (s.quiet.drive (Machine.gamma v))
  /-- R125. -/
  | scale {s : State} (v : Word10) :
      RunsTo (.scale v) s (s.quiet.drive (Machine.scale s.percentCap v))
  /-- R144, the sum fits. -/
  | dither {s : State} (v : Word10) (hfit : (ditherSum v s.phase).toNat ≤ 255) :
      RunsTo (.dither v) s ((s.quiet.setPhase (nextPhase s.phase)).drive
        (((ditherSum v s.phase).setWidth 8).setWidth 10))
  /-- R146, the sum is 256. -/
  | ditherOverflow {s : State} (v : Word10) (hover : 255 < (ditherSum v s.phase).toNat) :
      RunsTo (.dither v) s (s.quiet.raise .dutyOverflow)
  /-- R166. -/
  | setduty {s : State} (d : Duty) (hc : s.configured = true) :
      RunsTo (.setduty d) s (s.quiet.program d)
  /-- R170. -/
  | rdreg {s : State} (i : RegIndex) (v : Word10) (hv : s.regRead i = some v) :
      RunsTo (.rdreg i) s (s.quiet.drive v)
  /-- R35. -/
  | rdregUnimplemented {s : State} (i : RegIndex) (hv : s.regRead i = none) :
      RunsTo (.rdreg i) s (s.quiet.raise .illegalCmd)
  /-- R190, the sum fits. -/
  | iter {s : State} (hc : s.configured = true)
      (hfit : (ditherSum s.iterOperand s.phase).toNat ≤ 255) :
      RunsTo .iter s ((((s.quiet.convert.track s.adcNext).setPhase (nextPhase s.phase)).program
        ((ditherSum s.iterOperand s.phase).setWidth 8)).drive
        (((ditherSum s.iterOperand s.phase).setWidth 8).setWidth 10))
  /-- R192, the sum is 256. -/
  | iterOverflow {s : State} (hc : s.configured = true)
      (hover : 255 < (ditherSum s.iterOperand s.phase).toNat) :
      RunsTo .iter s ((s.quiet.convert.track s.adcNext).raise .dutyOverflow)

/-- Each path is what performing the operation's sub-steps gives. -/
theorem RunsTo.perform_eq {i : Instr} {s t : State} (h : RunsTo i s t) :
    s.quiet.perform (subSteps i s.quiet) = t := by
  cases h with
  | notConfigured steps hi hc => rw [hi, needConfigured_of_uninitialized _ s.quiet hc]; rfl
  | reinit hc => rw [subSteps, initSteps_of_configured s.quiet hc]; rfl
  | acqFail hc ha => rw [subSteps, initSteps_of_acqFail s.quiet hc ha]; rfl
  | init hc ha => rw [subSteps, initSteps_of_acqOk s.quiet hc ha]; rfl
  | measure hc => rw [subSteps, needConfigured_of_configured _ s.quiet hc]; rfl
  | hyst raw => rfl
  | gamma v => rfl
  | scale v => rfl
  | dither v hfit => rw [subSteps, ditherSteps, ditherStage_of_fits v s.quiet.phase _ hfit]; rfl
  | ditherOverflow v hover =>
    rw [subSteps, ditherSteps, ditherStage_of_overflow v s.quiet.phase _ hover]; rfl
  | setduty d hc => rw [subSteps, needConfigured_of_configured _ s.quiet hc]; rfl
  | rdreg i v hv => rw [subSteps, rdregSteps_of_some i s.quiet v hv]; rfl
  | rdregUnimplemented i hv => rw [subSteps, rdregSteps_of_none i s.quiet hv]; rfl
  | iter hc hfit =>
    rw [subSteps, needConfigured_of_configured _ s.quiet hc, iterSteps_eq,
      ditherStage_of_fits s.quiet.iterOperand s.quiet.phase _ hfit]
    rfl
  | iterOverflow hc hover =>
    rw [subSteps, needConfigured_of_configured _ s.quiet hc, iterSteps_eq,
      ditherStage_of_overflow s.quiet.iterOperand s.quiet.phase _ hover]
    rfl

/-- The equation of each path: `(RunsTo.measure hc).exec_eq hr` and so on. -/
theorem RunsTo.exec_eq {i : Instr} {s t : State} (h : RunsTo i s t) (hr : s.halted = false) :
    exec i s = .next t := by
  rw [exec_eq_operate, operate_of_running _ s hr, h.perform_eq]

/-- The paths leave nothing out. -/
theorem exists_runsTo (i : Instr) (s : State) : ∃ t, RunsTo i s t := by
  have hconf : s.configured = false ∨ s.configured = true := by cases s.configured <;> simp
  cases i with
  | init =>
    rcases hconf with hc | hc
    · cases ha : s.acqNext
      · exact ⟨_, .acqFail hc ha⟩
      · exact ⟨_, .init hc ha⟩
    · exact ⟨_, .reinit hc⟩
  | measure =>
    rcases hconf with hc | hc
    · exact ⟨_, .notConfigured _ rfl hc⟩
    · exact ⟨_, .measure hc⟩
  | hyst raw => exact ⟨_, .hyst raw⟩
  | gamma v => exact ⟨_, .gamma v⟩
  | scale v => exact ⟨_, .scale v⟩
  | dither v =>
    rcases Nat.lt_or_ge 255 (ditherSum v s.phase).toNat with hover | hfit
    · exact ⟨_, .ditherOverflow v hover⟩
    · exact ⟨_, .dither v hfit⟩
  | setduty d =>
    rcases hconf with hc | hc
    · exact ⟨_, .notConfigured _ rfl hc⟩
    · exact ⟨_, .setduty d hc⟩
  | rdreg i3 =>
    cases hv : s.regRead i3 with
    | none => exact ⟨_, .rdregUnimplemented i3 hv⟩
    | some v => exact ⟨_, .rdreg i3 v hv⟩
  | iter =>
    rcases hconf with hc | hc
    · exact ⟨_, .notConfigured _ rfl hc⟩
    · rcases Nat.lt_or_ge 255 (ditherSum s.iterOperand s.phase).toNat with hover | hfit
      · exact ⟨_, .iterOverflow hc hover⟩
      · exact ⟨_, .iter hc hfit⟩

/-- Everything an operation can answer: a halted block ignores it (R222), a running one takes a path. -/
theorem exec_next {i : Instr} {s t : State} (h : exec i s = .next t) :
    (s.halted = true ∧ t = s.quiet) ∨ (s.halted = false ∧ RunsTo i s t) := by
  rw [exec_eq_operate] at h
  obtain hhalted | ⟨hr, rfl⟩ := operate_next _ s t h
  · exact .inl hhalted
  · obtain ⟨u, hu⟩ := exists_runsTo i s
    exact .inr ⟨hr, hu.perform_eq ▸ hu⟩

/-- Everything a command word can answer (R100): ignored, illegal (R216), or a path of its operation. -/
theorem execWord_next {w : CmdWord} {s t : State} (h : execWord w s = .next t) :
    t = s.quiet ∨ t = s.quiet.raise .illegalCmd ∨
      (s.halted = false ∧ ∃ i, decode w = some i ∧ RunsTo i s t) := by
  unfold execWord at h
  cases hw : decode w with
  | none =>
    rw [hw] at h
    obtain ⟨-, rfl⟩ | ⟨-, rfl⟩ := operate_next illegalSteps s t h
    · exact .inl rfl
    · exact .inr (.inl rfl)
  | some i =>
    rw [hw] at h
    obtain ⟨-, rfl⟩ | ⟨hr, hrun⟩ := exec_next h
    · exact .inl rfl
    · exact .inr (.inr ⟨hr, i, rfl, hrun⟩)

/-- Everything a step can be: idle, or the handling of the next input. -/
theorem step_next {s t : State} (h : step s = .next t) :
    (s.inputs = [] ∧ t = s.quiet) ∨
      ∃ i rest, s.inputs = i :: rest ∧ handle i (s.setInputs rest) = .next t := by
  cases hin : s.inputs with
  | nil =>
    rw [step_of_nil s hin] at h
    exact .inl ⟨rfl, (Host.Outcome.next.inj h).symm⟩
  | cons i rest =>
    rw [step_of_cons s i rest hin] at h
    exact .inr ⟨i, rest, rfl, h⟩

/-- R261: every input is answered with a next state. -/
theorem handle_answers (i : Input) (s : State) : ∃ t, handle i s = .next t := by
  cases i with
  | cmd w => exact ⟨_, execWord_eq_operate w s⟩
  | rst during d o => exact ⟨_, rfl⟩
  | hostTimerBits o => exact ⟨_, rfl⟩
  | hostIntEnable on => exact ⟨_, rfl⟩

/-- R261: every step answers a next state. -/
theorem step_answers (s : State) : ∃ t, step s = .next t := by
  cases hin : s.inputs with
  | nil => exact ⟨_, step_of_nil s hin⟩
  | cons i rest =>
    rw [step_of_cons s i rest hin]
    exact handle_answers i _

end Sys2Proof.Machine
end

section
/-! The invariant of Safety.lean under each update of the state: one rule per update. -/

namespace Sys2Proof.Machine

/-- The three clauses of R103, with the value each gives. -/
theorem hyst_cases (raw previous : Word10) :
    (previous.toNat + 1 < raw.toNat ∧ (hyst raw previous).toNat = raw.toNat - 1) ∨
    (raw.toNat < previous.toNat ∧ (hyst raw previous).toNat = raw.toNat) ∨
    (previous.toNat ≤ raw.toNat ∧ raw.toNat ≤ previous.toNat + 1 ∧
      (hyst raw previous).toNat = previous.toNat) := by
  rcases Nat.lt_or_ge (previous.toNat + 1) raw.toNat with hrise | hle
  · exact .inl ⟨hrise, hyst_of_rise raw previous hrise⟩
  · rcases Nat.lt_or_ge raw.toNat previous.toNat with hfall | hge
    · exact .inr (.inl ⟨hfall, by rw [hyst_of_fall raw previous hfall]⟩)
    · exact .inr (.inr ⟨hge, hle, by rw [hyst_of_hold raw previous hge hle]⟩)

/-- R41: the tracker never reaches 1023. -/
theorem hyst_le_1022 (raw previous : Word10) (h : previous.toNat ≤ 1022) :
    (hyst raw previous).toNat ≤ 1022 := by
  have hraw := raw.isLt
  have := hyst_cases raw previous
  omega

namespace BlockInv

variable {s : State}

theorem quiet (h : BlockInv s) : BlockInv s.quiet := { h with halted_silent := fun _ => rfl }

theorem setInputs (h : BlockInv s) (rest : List Input) : BlockInv (s.setInputs rest) := { h with }

theorem setHostIntEnable (h : BlockInv s) (on : Bool) : BlockInv (s.setHostIntEnable on) := { h with }

theorem convert (h : BlockInv s) : BlockInv s.convert := { h with }

theorem sampleAcq (h : BlockInv s) : BlockInv s.sampleAcq := { h with }

theorem setPhase (h : BlockInv s) (p : Phase) : BlockInv (s.setPhase p) := { h with }

theorem program (h : BlockInv s) (d : Duty) : BlockInv (s.program d) := { h with }

theorem track (h : BlockInv s) (raw : Word10) : BlockInv (s.track raw) :=
  { h with tracked_le := hyst_le_1022 raw s.tracked h.tracked_le }

theorem drive (h : BlockInv s) (hr : s.halted = false) (v : Word10) : BlockInv (s.drive v) :=
  { h with halted_silent := by simp [hr] }

theorem setOther (h : BlockInv s) (o : BitVec 6) : BlockInv (s.setOther o) :=
  { h with
    configured_inverted := by simpa using h.configured_inverted
    uninitialized_plain := by simpa using h.uninitialized_plain }

/-- R221: a fault halts with its cause, which is one of the five codes, drives nothing and releases the lock. -/
theorem raise (h : BlockInv s) (c : Cause) : BlockInv (s.raise c) where
  tracked_le := h.tracked_le
  halted_iff_cause := by simp
  cause_le := by simpa using code_le c
  configured_inverted := by simpa using h.configured_inverted
  uninitialized_plain := by simpa using h.uninitialized_plain
  unlocked := rfl
  halted_silent _ := rfl

/-- R161: a completed `INIT` has set `PWM_EN`, `INV` and `CONFIGURED`, and released the lock. -/
theorem configure (h : BlockInv s) : BlockInv s.configureChannel.setConfigured where
  tracked_le := by simpa using h.tracked_le
  halted_iff_cause := by simpa using h.halted_iff_cause
  cause_le := by simpa using h.cause_le
  configured_inverted := by simp
  uninitialized_plain := by simp
  unlocked := by simp
  halted_silent := by simpa using h.halted_silent

/-- R43: a reset establishes the invariant, whatever it finds. -/
theorem resetTo (s : State) (d : Duty) (o : BitVec 6) : BlockInv (s.resetTo d o) where
  tracked_le := by simp
  halted_iff_cause := by simp
  cause_le := by simp
  configured_inverted := by simp
  uninitialized_plain := by simp
  unlocked := rfl
  halted_silent _ := rfl

end BlockInv

/-- Every path of every operation keeps the invariant. -/
theorem RunsTo.blockInv {i : Instr} {s t : State} (h : RunsTo i s t) (hr : s.halted = false)
    (hs : BlockInv s) : BlockInv t := by
  have hq := hs.quiet
  cases h with
  | notConfigured => exact hq.raise _
  | reinit => exact hq.raise _
  | acqFail => exact hq.sampleAcq.raise _
  | init => exact hq.sampleAcq.configure
  | measure => exact hq.convert.drive hr _
  | hyst raw => exact (hq.track raw).drive hr _
  | gamma => exact hq.drive hr _
  | scale => exact hq.drive hr _
  | dither => exact (hq.setPhase _).drive hr _
  | ditherOverflow => exact hq.raise _
  | setduty d => exact hq.program d
  | rdreg => exact hq.drive hr _
  | rdregUnimplemented => exact hq.raise _
  | iter => exact (((hq.convert.track _).setPhase _).program _).drive hr _
  | iterOverflow => exact (hq.convert.track _).raise _

/-- Every input keeps the invariant. -/
theorem handle_blockInv {i : Input} {s t : State} (h : handle i s = .next t) (hs : BlockInv s) :
    BlockInv t := by
  cases i with
  | cmd w =>
    obtain rfl | rfl | ⟨hr, i, -, hrun⟩ := execWord_next h
    · exact hs.quiet
    · exact hs.quiet.raise _
    · exact hrun.blockInv hr hs
  | rst during d o =>
    obtain ⟨u, hu, -⟩ := resetRequest_eq during d o s
    obtain rfl := Host.Outcome.next.inj (hu.symm.trans h)
    exact BlockInv.resetTo u d o
  | hostTimerBits o =>
    obtain rfl := Host.Outcome.next.inj h
    exact hs.quiet.setOther o
  | hostIntEnable on =>
    obtain rfl := Host.Outcome.next.inj h
    exact hs.quiet.setHostIntEnable on

/-- The state after power-up is one that a reset request gives, with the free values of R26 and R29. -/
theorem resetTo_reset :
    State.reset.resetTo Config.dutyReset Config.tcrOtherReset = State.reset := rfl

end Sys2Proof.Machine
end

section
/-! Which registers each path writes, and what it does not look at. -/

namespace Sys2Proof.Machine

namespace RunsTo

variable {i : Instr} {s t : State}

theorem tracked (h : RunsTo i s t) : t.tracked = s.tracked ∨ i = .iter ∨ ∃ raw, i = .hyst raw := by
  cases h with
  | hyst raw => exact .inr (.inr ⟨raw, rfl⟩)
  | init => exact .inl (by simp)
  | iter => exact .inr (.inl rfl)
  | iterOverflow => exact .inr (.inl rfl)
  | _ => exact .inl rfl

theorem phase (h : RunsTo i s t) : t.phase = s.phase ∨ i = .iter ∨ ∃ v, i = .dither v := by
  cases h with
  | dither v => exact .inr (.inr ⟨v, rfl⟩)
  | init => exact .inl (by simp)
  | iter => exact .inr (.inl rfl)
  | _ => exact .inl rfl

theorem duty (h : RunsTo i s t) :
    t.duty = s.duty ∨ i = .iter ∨ i = .init ∨ ∃ d, i = .setduty d := by
  cases h with
  | init => exact .inr (.inr (.inl rfl))
  | setduty d => exact .inr (.inr (.inr ⟨d, rfl⟩))
  | iter => exact .inr (.inl rfl)
  | _ => exact .inl rfl

theorem tcr (h : RunsTo i s t) : t.tcr = s.tcr ∨ i = .init := by
  cases h with
  | init => exact .inr rfl
  | _ => exact .inl rfl

/-- A path that is not `INIT`'s writes `STATUS` only by its fault, which halts. -/
theorem status (h : RunsTo i s t) : t.status = s.status ∨ i = .init ∨ t.halted = true := by
  cases h with
  | notConfigured => exact .inr (.inr (raise_halted _ _))
  | reinit => exact .inr (.inl rfl)
  | acqFail => exact .inr (.inl rfl)
  | init => exact .inr (.inl rfl)
  | ditherOverflow => exact .inr (.inr (raise_halted _ _))
  | rdregUnimplemented => exact .inr (.inr (raise_halted _ _))
  | iterOverflow => exact .inr (.inr (raise_halted _ _))
  | _ => exact .inl rfl

theorem sameSurroundings (h : RunsTo i s t) : s.sameSurroundings t := by
  cases h with
  | init => exact ⟨by simp, by simp, by simp⟩
  | _ => exact ⟨rfl, rfl, rfl⟩

/-- R30: `OTHER` is kept, by `INIT` too, which writes it back as read (R54). -/
theorem other (h : RunsTo i s t) : t.other = s.other := by
  cases h with
  | init => simp
  | _ => rfl

end RunsTo

/-- R30, input by input: only a reset request or the host's own change touches `OTHER`. -/
theorem handle_other {i : Input} {s t : State} (h : handle i s = .next t) :
    t.other = s.other ∨ (∃ a d o, i = .rst a d o) ∨ ∃ o, i = .hostTimerBits o := by
  cases i with
  | cmd w =>
    obtain rfl | rfl | ⟨-, i, -, hrun⟩ := execWord_next h
    · exact .inl rfl
    · exact .inl rfl
    · exact .inl hrun.other
  | rst during d o => exact .inr (.inl ⟨during, d, o, rfl⟩)
  | hostTimerBits o => exact .inr (.inr ⟨o, rfl⟩)
  | hostIntEnable on =>
    obtain rfl := Host.Outcome.next.inj h
    exact .inl rfl

/-- What may tell two answers apart where the old states differ in `DUTY` (`d'` and `d`) and in `TCR.OTHER` (the
second has `o`): `OTHER`, and `DUTY` where the operation writes none. -/
structure SameButOld (d' d : Duty) (o : BitVec 6) (t t' : State) : Prop where
  res : t'.res = t.res
  tracked : t'.tracked = t.tracked
  phase : t'.phase = t.phase
  status : t'.status = t.status
  pwmEn : t'.pwmEn = t.pwmEn
  inv : t'.inv = t.inv
  other : t'.other = o
  duty : t'.duty = t.duty ∨ (t.duty = d' ∧ t'.duty = d)

/-- The second state still has its own `DUTY`: the operation has written none. -/
theorem SameButOld.unwritten {d' d : Duty} {o : BitVec 6} {t : State} (h : t.duty = d') :
    SameButOld d' d o t ((t.setDuty d).setOther o) := by
  constructor <;> simp [h]

/-- Both have the `DUTY` that the operation has written. -/
theorem SameButOld.written {d' d : Duty} {o : BitVec 6} {t : State} :
    SameButOld d' d o t (t.setOther o) := by
  constructor <;> simp

/-- R30 and R193: a path is chosen and taken alike, whatever the old `DUTY` and `TCR.OTHER` are. -/
theorem RunsTo.sameButOld {i : Instr} {s t : State} (h : RunsTo i s t) (hi : ∀ i3, i ≠ .rdreg i3)
    (d : Duty) (o : BitVec 6) :
    ∃ t', RunsTo i ((s.setDuty d).setOther o) t' ∧ SameButOld s.duty d o t t' := by
  cases h with
  | notConfigured steps hi hc => exact ⟨_, .notConfigured steps hi hc, .unwritten rfl⟩
  | reinit hc => exact ⟨_, .reinit hc, .unwritten rfl⟩
  | acqFail hc ha => exact ⟨_, .acqFail hc ha, .unwritten rfl⟩
  | init hc ha => exact ⟨_, .init hc ha, by constructor <;> simp⟩
  | measure hc => exact ⟨_, .measure hc, .unwritten rfl⟩
  | hyst raw => exact ⟨_, .hyst raw, .unwritten rfl⟩
  | gamma v => exact ⟨_, .gamma v, .unwritten rfl⟩
  | scale v => exact ⟨_, .scale v, .unwritten rfl⟩
  | dither v hfit => exact ⟨_, .dither v hfit, .unwritten rfl⟩
  | ditherOverflow v hover => exact ⟨_, .ditherOverflow v hover, .unwritten rfl⟩
  | setduty v hc => exact ⟨_, .setduty v hc, .written⟩
  | rdreg i3 => exact absurd rfl (hi i3)
  | rdregUnimplemented i3 => exact absurd rfl (hi i3)
  | iter hc hfit => exact ⟨_, .iter hc hfit, .written⟩
  | iterOverflow hc hover => exact ⟨_, .iterOverflow hc hover, .unwritten rfl⟩

end Sys2Proof.Machine
end

section
/-! What the decoder never gives. -/

namespace Sys2Proof

theorem decodeSetduty_wellFormed {arg : Word10} {i : Instr} (h : decodeSetduty arg = .ok i) :
    i.wellFormed = true := by
  unfold decodeSetduty at h
  split at h
  · cases h; rfl
  · cases h

/-- R73: the extra condition of `RDREG`. -/
theorem decodeRdreg_wellFormed {arg : Word10} {i : Instr} (h : decodeRdreg arg = .ok i) :
    i.wellFormed = true := by
  unfold decodeRdreg at h
  split at h
  case isTrue hindex => cases h; exact decide_eq_true hindex.2
  case isFalse => cases h

theorem bare_wellFormed {arg : Word10} {i j : Instr} (hi : i.wellFormed = true)
    (h : bare arg i = .ok j) : j.wellFormed = true := by
  obtain ⟨-, rfl⟩ := (bare_ok arg i j).mp h
  exact hi

/-- R74: a word selects well-formed operations only, so no `RDREG` of an unimplemented index. -/
theorem decode_wellFormed {w : CmdWord} {i : Instr} (h : decode w = some i) : i.wellFormed = true := by
  rw [decode_eq_some] at h
  unfold decodeNamed at h
  split_ifs at h
  · exact bare_wellFormed rfl h
  · exact bare_wellFormed rfl h
  · cases h; rfl
  · cases h; rfl
  · cases h; rfl
  · cases h; rfl
  · exact decodeSetduty_wellFormed h
  · exact decodeRdreg_wellFormed h
  · exact bare_wellFormed rfl h

end Sys2Proof
end

section
/-! The obligations of spec/10_state.md. -/

namespace Sys2Proof.Machine

/-- Settles O56: idle or the next input, and each input keeps the invariant. -/
theorem stepKeepsTheInvariant : Obligations.StepKeepsTheInvariant := by
  intro s t hs h
  obtain ⟨-, rfl⟩ | ⟨i, rest, -, hi⟩ := step_next h
  · exact hs.quiet
  · exact handle_blockInv hi (hs.setInputs rest)

/-- Settles O57: power-up is a reset. -/
theorem resetMeetsTheInvariant : Obligations.ResetMeetsTheInvariant := by
  unfold Obligations.ResetMeetsTheInvariant
  rw [← resetTo_reset]
  exact BlockInv.resetTo State.reset _ _

/-- Settles O54: the fields that a reset request leaves. -/
theorem resetStateHasTheTableValues : Obligations.ResetStateHasTheTableValues := by
  unfold Obligations.ResetStateHasTheTableValues
  rw [← resetTo_reset]
  simp

/-- Settles O11, by the three clauses of R103. -/
theorem trackerFollowsTheSample : Obligations.TrackerFollowsTheSample := by
  intro s raw hr
  refine ⟨_, (RunsTo.hyst raw).exec_eq hr, ?_⟩
  have htracked : ((s.quiet.track raw).drive (hyst raw s.tracked)).tracked = hyst raw s.tracked := rfl
  have hcases := hyst_cases raw s.tracked
  rw [htracked]
  omega

/-- Settles O46: a halted block writes nothing, and each path only its registers. -/
theorem operationsWriteOnlyTheirRegisters : Obligations.OperationsWriteOnlyTheirRegisters := by
  intro s t i h
  obtain ⟨-, rfl⟩ | ⟨hr, hrun⟩ := exec_next h
  · exact ⟨.inl rfl, .inl rfl, .inl rfl, .inl rfl, .inl rfl, rfl, rfl, rfl⟩
  · exact ⟨hrun.tracked, hrun.phase, hrun.duty, hrun.tcr,
      hrun.status.imp_right (Or.imp_right fun hh => ⟨hh, hr⟩), hrun.sameSurroundings⟩

/-- Settles O48: the next input is the only way to `OTHER`. -/
theorem otherTimerBitsArePreserved : Obligations.OtherTimerBitsArePreserved := by
  intro s t h
  obtain ⟨-, rfl⟩ | ⟨i, rest, hin, hi⟩ := step_next h
  · exact .inl rfl
  · simpa [hin] using handle_other hi

/-- Settles O49: both blocks ignore the operation, or both take the same path. -/
theorem oldDutyAndOtherBitsAreNotSeen : Obligations.OldDutyAndOtherBitsAreNotSeen := by
  intro s t t' i d o hi h h'
  have hsame : SameButOld s.duty d o t t' := by
    obtain ⟨hh, rfl⟩ | ⟨hr, hrun⟩ := exec_next h
    · rw [exec_eq_operate, operate_of_halted _ (State.setOther o { s with duty := d }) hh] at h'
      obtain rfl := Host.Outcome.next.inj h'
      exact .unwritten (t := s.quiet) rfl
    · obtain ⟨u, hu, hsame⟩ := hrun.sameButOld hi d o
      obtain rfl := Host.Outcome.next.inj ((hu.exec_eq hr).symm.trans h')
      exact hsame
  exact ⟨hsame.res, hsame.tracked, hsame.phase, hsame.status, hsame.pwmEn, hsame.inv, hsame.other,
    hsame.duty⟩

/-- Settles O31: the register space has no such index, and no such operation has a word. -/
theorem rdregOfUnimplementedIndexFaults : Obligations.RdregOfUnimplementedIndexFaults := by
  constructor
  · intro s i hr hi
    exact (RunsTo.rdregUnimplemented i (regRead_of_large s i hi)).exec_eq hr
  · intro w i hi h
    have hle : i.toNat ≤ 4 := of_decide_eq_true (decode_wellFormed h)
    omega

/-- Settles O52: what each input other than a command answers, and that no step reads the result. -/
theorem idleAndHostInputsTouchNothingElse : Obligations.IdleAndHostInputsTouchNothingElse := by
  refine ⟨fun s hin => step_of_nil s hin, fun s o rest hin => step_of_cons s _ rest hin,
    fun s on rest hin => step_of_cons s _ rest hin, fun s r m => ⟨step_ignores_result s r m, ?_⟩⟩
  obtain ⟨t, ht⟩ := step_answers s
  exact ⟨t, ht, stepReturning_of_next s t ht, step_withoutResult t⟩

end Sys2Proof.Machine
end

section
/-! Decoding the word of an operation, and presenting that word. -/

namespace Sys2Proof

/-- A field widened into `ARG` reads back from the low bits. -/
theorem extractLsb'_zero_setWidth {n : Nat} (x : BitVec n) (h : n ≤ 10) :
    (x.setWidth 10).extractLsb' 0 n = x := by
  rw [← BitVec.setWidth_eq_extractLsb' h, BitVec.setWidth_setWidth_of_le x h, BitVec.setWidth_eq]

/-- The bits of `ARG` above a widened field are 0. -/
theorem extractLsb'_above_setWidth {n : Nat} (x : BitVec n) (k : Nat) :
    (x.setWidth 10).extractLsb' n k = 0 := by
  ext i hi
  simp

theorem decodeSetduty_setWidth (d : Duty) : decodeSetduty (d.setWidth 10) = .ok (.setduty d) := by
  rw [decodeSetduty, if_pos (extractLsb'_above_setWidth d 2), extractLsb'_zero_setWidth d (by decide)]

/-- R73: the index of a well-formed `RDREG` meets the row's extra condition. -/
theorem decodeRdreg_setWidth (i : RegIndex) (h : i.toNat ≤ 4) :
    decodeRdreg (i.setWidth 10) = .ok (.rdreg i) := by
  rw [decodeRdreg, extractLsb'_zero_setWidth i (by decide),
    if_pos ⟨extractLsb'_above_setWidth i 7, h⟩]

/-- R80: decoding undoes encoding on the well-formed operations. The fields of `cmdWord` select the row, and only
the operands of `SETDUTY` and `RDREG` have a test that is not closed. -/
theorem decode_encode {i : Instr} (h : i.wellFormed = true) : decode (encode i) = some i := by
  rw [decode_eq_some]
  cases i with
  | setduty d => simp [encode, decodeNamed, decodeSetduty_setWidth]
  | rdreg i3 => simp [encode, decodeNamed, decodeRdreg_setWidth i3 (of_decide_eq_true h)]
  | init | measure | iter => simp [encode, decodeNamed, bare]
  | hyst | gamma | scale | dither => simp [encode, decodeNamed]

/-- R50: a command word is its own table row of 16 bits. -/
theorem tableWord_toNat (w : CmdWord) : tableWord 16 w.toNat = w := by
  rw [tableWord, Nat.mod_eq_of_lt w.isLt, BitVec.ofNat_toNat, BitVec.setWidth_eq]

theorem decodeTableWord_toNat (w : CmdWord) : decodeTableWord 16 w.toNat = decode w := by
  have hfits : w.toNat % 2 ^ 16 < 65536 := Nat.mod_lt _ (by decide)
  rw [decodeTableWord, if_pos hfits, tableWord_toNat]

end Sys2Proof

namespace Sys2Proof.Machine

/-- R80, R100: a legal word runs the operation it selects. -/
theorem execWord_of_decode {w : CmdWord} {i : Instr} (h : decode w = some i) (s : State) :
    execWord w s = exec i s := by
  simp [execWord, h]

/-- R57: a step whose next input is a legal word runs the word's operation. -/
theorem step_of_decode {s : State} {w : CmdWord} {i : Instr} {rest : List Input}
    (hin : s.inputs = .cmd w :: rest) (h : decode w = some i) :
    step s = exec i (s.setInputs rest) :=
  (step_of_cons s _ rest hin).trans (execWord_of_decode h _)

/-- The word of log 5 is presented before every other input. -/
theorem withFetchWord_toNat_inputs (s : State) (w : CmdWord) :
    (s.withFetchWord 16 w.toNat).inputs = .cmd w :: s.inputs := by
  rw [State.withFetchWord, tableWord_toNat]

/-- Taking the presented word off again gives back the state. -/
theorem withFetchWord_setInputs (s : State) (nbits w : Nat) :
    (s.withFetchWord nbits w).setInputs s.inputs = s := rfl

end Sys2Proof.Machine
end

section
/-! The obligations of spec/20_memory.md. -/

namespace Sys2Proof.Machine

/-- Settles O6: the word presented for a well-formed operation decodes to it, and presenting a word adds only the
input that the step takes off. -/
theorem stepRunsTheDecodedOperation : Obligations.StepRunsTheDecodedOperation := by
  constructor
  · intro s w i rest hin h
    exact step_of_decode hin h
  · intro s i hi
    have hdec : decode (encode i) = some i := decode_encode hi
    refine ⟨(decodeTableWord_toNat _).trans hdec, ?_⟩
    rw [step_of_decode (withFetchWord_toNat_inputs s (encode i)) hdec, withFetchWord_setInputs]

end Sys2Proof.Machine
end

section
/-! The number of each operation's word, encoding as the inverse of decoding, and the rows of R73 as masks. -/

namespace Sys2Proof

/-- R70: a command word as a number. -/
theorem cmdWord_toNat (opc : BitVec 4) (arg : Word10) :
    (cmdWord opc arg).toNat = opc.toNat * 4096 + arg.toNat := by
  have hopc : opc.toNat * 4096 ||| arg.toNat = opc.toNat * 4096 + arg.toNat := by
    rw [Nat.mul_comm, ← Nat.two_pow_add_eq_or_of_lt (i := 12) (by omega)]
  rw [← hopc, cmdWord, BitVec.toNat_append, BitVec.toNat_append, Nat.shiftLeft_eq]
  simp

theorem encode_hyst_toNat (raw : Word10) : (encode (.hyst raw)).toNat = 0x3000 + raw.toNat :=
  cmdWord_toNat _ _

theorem encode_gamma_toNat (v : Word10) : (encode (.gamma v)).toNat = 0x4000 + v.toNat :=
  cmdWord_toNat _ _

theorem encode_scale_toNat (v : Word10) : (encode (.scale v)).toNat = 0x5000 + v.toNat :=
  cmdWord_toNat _ _

theorem encode_dither_toNat (v : Word10) : (encode (.dither v)).toNat = 0x6000 + v.toNat :=
  cmdWord_toNat _ _

theorem encode_setduty_toNat (d : Duty) : (encode (.setduty d)).toNat = 0x7000 + d.toNat :=
  (cmdWord_toNat _ _).trans (congrArg _ (BitVec.toNat_setWidth_of_le (by decide)))

theorem encode_rdreg_toNat (i : RegIndex) : (encode (.rdreg i)).toNat = 0x8000 + i.toNat :=
  (cmdWord_toNat _ _).trans (congrArg _ (BitVec.toNat_setWidth_of_le (by decide)))

/-- `ARG` is its low bits where the bits above them are 0. -/
theorem setWidth_extractLsb'_zero {arg : Word10} {n k : Nat} (hsum : n + k = 10)
    (h : arg.extractLsb' n k = 0) : (arg.extractLsb' 0 n).setWidth 10 = arg := by
  ext i hi
  by_cases hin : i < n
  · simp [hin, hi]
  · have hbit : (arg.extractLsb' n k).getLsbD (i - n) = false := by rw [h]; exact BitVec.getLsbD_zero
    rw [BitVec.getLsbD_extractLsb', Nat.add_sub_cancel' (not_lt.mp hin)] at hbit
    simpa [hin, show i - n < k by omega, BitVec.getLsbD_eq_getElem hi] using hbit

theorem encode_of_decodeSetduty {arg : Word10} {i : Instr} (h : decodeSetduty arg = .ok i) :
    encode i = cmdWord 0x7#4 arg := by
  unfold decodeSetduty at h
  split at h
  case isTrue hhigh =>
    cases h
    exact congrArg (cmdWord 0x7#4) (setWidth_extractLsb'_zero rfl hhigh)
  case isFalse => cases h

theorem encode_of_decodeRdreg {arg : Word10} {i : Instr} (h : decodeRdreg arg = .ok i) :
    encode i = cmdWord 0x8#4 arg := by
  unfold decodeRdreg at h
  split at h
  case isTrue hindex =>
    obtain ⟨hhigh, -⟩ := hindex
    cases h
    exact congrArg (cmdWord 0x8#4) (setWidth_extractLsb'_zero rfl hhigh)
  case isFalse => cases h

theorem encode_of_bare {arg : Word10} {i j : Instr} {opc : BitVec 4} (hi : encode i = cmdWord opc 0)
    (h : bare arg i = .ok j) : encode j = cmdWord opc arg := by
  obtain ⟨rfl, rfl⟩ := (bare_ok arg i j).mp h
  exact hi

/-- R80: encoding undoes decoding. The row that was taken fixes `OPC`, and a word is its three fields. -/
theorem encode_of_decode {w : CmdWord} {i : Instr} (h : decode w = some i) : encode i = w := by
  rw [decode_eq_some] at h
  unfold decodeNamed at h
  split at h
  case isTrue => cases h
  case isFalse hrsv =>
    rw [← cmdWord_fields w (not_not.mp hrsv)]
    split_ifs at h with hopc hopc hopc hopc hopc hopc hopc hopc hopc <;> rw [hopc]
    · exact encode_of_bare rfl h
    · exact encode_of_bare rfl h
    · cases h; rfl
    · cases h; rfl
    · cases h; rfl
    · cases h; rfl
    · exact encode_of_decodeSetduty h
    · exact encode_of_decodeRdreg h
    · exact encode_of_bare rfl h

/-- R80: a word decodes to an operation exactly when it is the word of that well-formed operation. -/
theorem decode_eq_some_iff_encode {w : CmdWord} {i : Instr} :
    decode w = some i ↔ encode i = w ∧ i.wellFormed = true := by
  constructor
  · intro h
    exact ⟨encode_of_decode h, decode_wellFormed h⟩
  · rintro ⟨rfl, hi⟩
    exact decode_encode hi

/-- A mask that clears the `k` low bits, as arithmetic. -/
theorem toNat_and_allOnes_shiftLeft (w : CmdWord) (k : Nat) :
    (w &&& BitVec.allOnes 16 <<< k).toNat = 2 ^ k * (w.toNat / 2 ^ k) := by
  have hle : 2 ^ k * (w.toNat / 2 ^ k) < 2 ^ 16 := (Nat.mul_div_le _ _).trans_lt w.isLt
  rw [← BitVec.shiftLeft_ushiftRight, BitVec.toNat_shiftLeft, BitVec.toNat_ushiftRight,
    Nat.shiftRight_eq_div_pow, Nat.shiftLeft_eq, Nat.mul_comm, Nat.mod_eq_of_lt hle]

/-- R73: a row whose operand `x` fills the `k` low bits under the row's `match` and `mask`. -/
theorem decode_eq_some_iff_row {w row : CmdWord} {i : Instr} {k q x : Nat}
    (henc : (encode i).toNat = row.toNat + x) (hrow : row.toNat = 2 ^ k * q) (hx : x < 2 ^ k) :
    decode w = some i ↔
      (w &&& BitVec.allOnes 16 <<< k = row ∧ x = w.toNat % 2 ^ k) ∧ i.wellFormed = true := by
  have hsplit : row.toNat + x = w.toNat ↔ w.toNat / 2 ^ k = q ∧ w.toNat % 2 ^ k = x := by
    rw [Nat.div_mod_unique (Nat.two_pow_pos k), hrow, Nat.add_comm, and_iff_left hx]
  rw [decode_eq_some_iff_encode, ← BitVec.toNat_inj, henc, hsplit, ← BitVec.toNat_inj,
    toNat_and_allOnes_shiftLeft, hrow, Nat.mul_right_inj (Nat.two_pow_pos k).ne', eq_comm (a := x)]

/-- R73: a row without an operand, where the mask is the whole word. -/
theorem decode_eq_some_iff_word {w : CmdWord} {i : Instr} (hi : i.wellFormed = true) :
    decode w = some i ↔ w &&& 0xFFFF#16 = encode i := by
  rw [decode_eq_some_iff_encode, and_iff_left hi, eq_comm,
    show w &&& 0xFFFF#16 = w from BitVec.and_allOnes]

/-- R73: a row with an operand and no extra condition. -/
theorem decode_eq_some_iff_operand {w row : CmdWord} {i : Instr} {k q x : Nat}
    (hi : i.wellFormed = true) (henc : (encode i).toNat = row.toNat + x)
    (hrow : row.toNat = 2 ^ k * q) (hx : x < 2 ^ k) :
    decode w = some i ↔ w &&& BitVec.allOnes 16 <<< k = row ∧ x = w.toNat % 2 ^ k := by
  rw [decode_eq_some_iff_row henc hrow hx, and_iff_left hi]

end Sys2Proof
end

section
/-! The numbers of the legal words. -/

namespace Sys2Proof

/-- The legal words of each row of R73 as a range of numbers: the first, and the number past the
last (R74). -/
def legalRows : Finset (Nat × Nat) :=
  {(0x1000, 0x1001), (0x2000, 0x2001), (0x3000, 0x3400), (0x4000, 0x4400), (0x5000, 0x5400),
    (0x6000, 0x6400), (0x7000, 0x7100), (0x8000, 0x8005), (0x9000, 0x9001)}

/-- The numbers of the legal words. -/
def legalNumbers : Finset Nat := legalRows.biUnion fun r => Finset.Ico r.1 r.2

theorem mem_legalNumbers {n : Nat} :
    n ∈ legalNumbers ↔
      0x1000 ≤ n ∧ n < 0x1001 ∨ 0x2000 ≤ n ∧ n < 0x2001 ∨ 0x3000 ≤ n ∧ n < 0x3400 ∨
      0x4000 ≤ n ∧ n < 0x4400 ∨ 0x5000 ≤ n ∧ n < 0x5400 ∨ 0x6000 ≤ n ∧ n < 0x6400 ∨
      0x7000 ≤ n ∧ n < 0x7100 ∨ 0x8000 ≤ n ∧ n < 0x8005 ∨ 0x9000 ≤ n ∧ n < 0x9001 := by
  simp only [legalNumbers, legalRows, Finset.mem_biUnion, Finset.mem_insert, Finset.mem_singleton,
    Finset.mem_Ico, exists_eq_or_imp, exists_eq_left]

theorem encode_toNat_mem_legalNumbers {i : Instr} (h : i.wellFormed = true) :
    (encode i).toNat ∈ legalNumbers := by
  rw [mem_legalNumbers]
  cases i with
  | init | measure | iter => decide
  | hyst raw => rw [encode_hyst_toNat]; omega
  | gamma v => rw [encode_gamma_toNat]; omega
  | scale v => rw [encode_scale_toNat]; omega
  | dither v => rw [encode_dither_toNat]; omega
  | setduty d => rw [encode_setduty_toNat]; omega
  | rdreg i3 =>
    have hindex : i3.toNat ≤ 4 := of_decide_eq_true h
    rw [encode_rdreg_toNat]
    omega

/-- A number in the range of a row decodes: its distance from the row's first word is the operand. -/
theorem decode_ne_none_of_row {n first : Nat} {op : BitVec n → Instr} {w : CmdWord}
    (henc : ∀ x, (encode (op x)).toNat = first + x.toNat)
    (hrow : first ≤ w.toNat ∧ w.toNat < first + 2 ^ n)
    (hwf : ∀ x, first + x.toNat = w.toNat → (op x).wellFormed = true) : decode w ≠ none := by
  obtain ⟨hfirst, hpast⟩ := hrow
  obtain ⟨x, hx⟩ : ∃ x : BitVec n, first + x.toNat = w.toNat :=
    ⟨BitVec.ofNat n (w.toNat - first), by
      rw [BitVec.toNat_ofNat, Nat.mod_eq_of_lt (by omega), Nat.add_sub_cancel' hfirst]⟩
  exact Option.ne_none_iff_exists'.mpr ⟨op x, decode_eq_some_iff_encode.mpr
    ⟨BitVec.eq_of_toNat_eq ((henc x).trans hx), hwf x hx⟩⟩

/-- The range of a row without an operand is one word. -/
theorem decode_ne_none_of_word {first : Nat} {i : Instr} {w : CmdWord} (hi : i.wellFormed = true)
    (henc : (encode i).toNat = first) (hrow : first ≤ w.toNat ∧ w.toNat < first + 1) :
    decode w ≠ none :=
  Option.ne_none_iff_exists'.mpr ⟨i, decode_eq_some_iff_encode.mpr
    ⟨BitVec.eq_of_toNat_eq (by omega), hi⟩⟩

/-- R74: the legal words, by their numbers. -/
theorem decode_ne_none_iff {w : CmdWord} : decode w ≠ none ↔ w.toNat ∈ legalNumbers := by
  constructor
  · intro h
    obtain ⟨i, hi⟩ := Option.ne_none_iff_exists'.mp h
    obtain ⟨rfl, hwf⟩ := decode_eq_some_iff_encode.mp hi
    exact encode_toNat_mem_legalNumbers hwf
  · intro h
    obtain h | h | h | h | h | h | h | h | h := mem_legalNumbers.mp h
    · exact decode_ne_none_of_word (i := .init) rfl rfl h
    · exact decode_ne_none_of_word (i := .measure) rfl rfl h
    · exact decode_ne_none_of_row encode_hyst_toNat h (fun _ _ => rfl)
    · exact decode_ne_none_of_row encode_gamma_toNat h (fun _ _ => rfl)
    · exact decode_ne_none_of_row encode_scale_toNat h (fun _ _ => rfl)
    · exact decode_ne_none_of_row encode_dither_toNat h (fun _ _ => rfl)
    · exact decode_ne_none_of_row encode_setduty_toNat h (fun _ _ => rfl)
    · refine decode_ne_none_of_row encode_rdreg_toNat (by omega) fun i3 hi => ?_
      have hindex : i3.toNat ≤ 4 := by omega
      exact decide_eq_true hindex
    · exact decode_ne_none_of_word (i := .iter) rfl rfl h

/-- The rows share no word: of two of them, the one that ends first ends before the other begins. -/
theorem legalRows_pairwiseDisjoint :
    (legalRows : Set (Nat × Nat)).PairwiseDisjoint fun r => Finset.Ico r.1 r.2 := by
  have hends : ∀ r ∈ legalRows, ∀ r' ∈ legalRows, r ≠ r' → min r.2 r'.2 ≤ max r.1 r'.1 := by
    decide
  intro r hr r' hr' hne
  simpa only [Function.onFun, ← Finset.disjoint_coe, Finset.coe_Ico, Set.Ico_disjoint_Ico] using
    hends r hr r' hr' hne

theorem card_legalNumbers : legalNumbers.card = 4360 := by
  calc legalNumbers.card
      = ∑ r ∈ legalRows, (Finset.Ico r.1 r.2).card := Finset.card_biUnion legalRows_pairwiseDisjoint
    _ = ∑ r ∈ legalRows, (r.2 - r.1) := by simp only [Nat.card_Ico]
    _ = 4360 := by decide

theorem lt_of_mem_legalNumbers {n : Nat} (h : n ∈ legalNumbers) : n < 65536 := by
  rw [mem_legalNumbers] at h
  omega

/-- The numbers that decode, taken over all words. -/
theorem filter_decode_eq_legalNumbers :
    (Finset.range 65536).filter (fun n => (decode (BitVec.ofNat 16 n)).isSome = true) = legalNumbers := by
  ext n
  rw [Finset.mem_filter, Finset.mem_range, Option.isSome_iff_ne_none, decode_ne_none_iff,
    BitVec.toNat_ofNat]
  constructor
  · rintro ⟨hn, h⟩
    rwa [Nat.mod_eq_of_lt hn] at h
  · intro h
    exact ⟨lt_of_mem_legalNumbers h, by rwa [Nat.mod_eq_of_lt (lt_of_mem_legalNumbers h)]⟩

end Sys2Proof
end

section
/-! Assembling a mnemonic with a decimal operand. -/

namespace Sys2Proof.Machine

/-- R78: a decimal digit is read as its distance from `0`. -/
theorem decDigit_of_isDigit {c : Char} (h : c.isDigit = true) :
    decDigit c = some (c.toNat - '0'.toNat) :=
  if_pos (Char.isDigit_iff_toNat.mp h)

/-- Reading decimal digits is the library's `Nat.ofDigitChars`. -/
theorem readDigits_decDigit {cs : List Char} (h : ∀ c ∈ cs, c.isDigit = true) (acc : Nat) :
    readDigits decDigit 10 acc cs = some (Nat.ofDigitChars 10 cs acc) := by
  induction cs generalizing acc with
  | nil => rfl
  | cons c cs ih =>
    obtain ⟨hc, hcs⟩ := List.forall_mem_cons.mp h
    rw [readDigits, decDigit_of_isDigit hc, Nat.ofDigitChars_cons, Nat.mul_comm 10]
    exact ih hcs _

theorem isDigit_of_mem_toDigits {n : Nat} {c : Char} (h : c ∈ Nat.toDigits 10 n) : c.isDigit = true :=
  Nat.isDigit_of_mem_toDigits (by decide) (by decide) h

/-- R78: an operand of decimal digits has no `0x` before it. -/
theorem readOperand_of_isDigit {cs : List Char} (hne : cs ≠ []) (h : ∀ c ∈ cs, c.isDigit = true) :
    readOperand cs = some (Nat.ofDigitChars 10 cs 0) := by
  unfold readOperand
  split
  case h_1 hex => exact absurd (h 'x' (by simp)) (by decide)
  case h_2 =>
    rw [← readDigits_decDigit h]
    cases cs with
    | nil => exact absurd rfl hne
    | cons c cs => rfl

/-- R78: the decimal digits of a number read back as the number. -/
theorem readOperand_toDigits (n : Nat) : readOperand (Nat.toDigits 10 n) = some n := by
  rw [readOperand_of_isDigit Nat.toDigits_ne_nil fun c => isDigit_of_mem_toDigits,
    Nat.ofDigitChars_toDigits (by decide) (by decide)]

theorem stripComment_of_notMem {cs : List Char} (h : ';' ∉ cs) : stripComment cs = cs := by
  rw [stripComment, List.takeWhile_eq_self_iff]
  intro c hc
  exact bne_iff_ne.mpr (ne_of_mem_of_not_mem hc h)

/-- A text that ends in a digit loses nothing (log 12). -/
theorem stripTrailing_append_of_isDigit (cs : List Char) {ds : List Char} (hne : ds ≠ [])
    (h : ∀ c ∈ ds, c.isDigit = true) : stripTrailing (cs ++ ds) = cs ++ ds := by
  refine List.rdropWhile_eq_self_iff.mpr fun hl => ?_
  rw [List.getLast_append_of_ne_nil _ hne]
  have hd := h _ (List.getLast_mem hne)
  generalize ds.getLast hne = d at hd
  simp only [Bool.or_eq_true, beq_iff_eq]
  rintro ((rfl | rfl) | rfl) <;> exact absurd hd (by decide)

/-- R78: the mnemonic runs to the first space, and what follows that space is the operand. -/
theorem assembleLine_of_strip {line name operand : List Char}
    (hstrip : stripTrailing (stripComment line) = name ++ ' ' :: operand) (hne : name ≠ [])
    (hspace : ' ' ∉ name) : assembleLine line = asmWithOperand name operand := by
  have hname : ∀ c ∈ name, (c != ' ') = true :=
    fun c hc => bne_iff_ne.mpr (ne_of_mem_of_not_mem hc hspace)
  obtain ⟨c, cs, rfl⟩ := List.exists_cons_of_ne_nil hne
  rw [assembleLine, hstrip, List.takeWhile_append_of_pos hname, List.dropWhile_append_of_pos hname]
  simp

/-- What R78 takes for a mnemonic: a word of its own, and no directive. -/
abbrev IsMnemonic (name : List Char) : Prop :=
  name ≠ [] ∧ ' ' ∉ name ∧ ';' ∉ name ∧ name ≠ ['.', 'w', 'o', 'r', 'd']

/-- The text of a mnemonic and a decimal operand holds no comment and ends in no blank. -/
theorem strip_asmText {name : List Char} (n : Nat) (hcomment : ';' ∉ name) :
    stripTrailing (stripComment (asmText name n)) = asmText name n := by
  have hdigits : ∀ c ∈ Nat.toDigits 10 n, c.isDigit = true := fun c => isDigit_of_mem_toDigits
  have hsemi : ';' ∉ Nat.toDigits 10 n := fun h => absurd (hdigits _ h) (by decide)
  rw [stripComment_of_notMem (by simp [asmText, hcomment, hsemi]), asmText, List.append_cons]
  exact stripTrailing_append_of_isDigit _ Nat.toDigits_ne_nil hdigits

/-- R78: a mnemonic with a decimal operand in range assembles to the word of its operation. -/
theorem assembleLine_asmText {name : List Char} {n : Nat} {i : Instr} (hname : IsMnemonic name)
    (hop : asmOperand name n = some i) : assembleLine (asmText name n) = .word (encode i) := by
  obtain ⟨hne, hspace, hcomment, hword⟩ := hname
  rw [assembleLine_of_strip (strip_asmText n hcomment) hne hspace, asmWithOperand, if_neg hword,
    readOperand_toDigits]
  exact congrArg asmWord hop

end Sys2Proof.Machine
end

section
/-! The obligations of spec/30_encoding.md. -/

namespace Sys2Proof.Machine

/-- Settles O3: the word of each operation as a number, and that a word decodes to an operation exactly
when it is the word of that well-formed operation. -/
theorem decodeAndEncodeAreInverse : Obligations.DecodeAndEncodeAreInverse := by
  refine ⟨⟨rfl, rfl, rfl, encode_hyst_toNat, encode_gamma_toNat, encode_scale_toNat,
    encode_dither_toNat, encode_setduty_toNat, encode_rdreg_toNat⟩, ?_, ?_⟩
  · exact fun i hi => decode_encode hi
  · exact fun w i h => decode_eq_some_iff_encode.mp h

/-- Settles O2, row by row: the mask clears the bits of the operand. -/
theorem wordsSelectRowsByMatchAndMask : Obligations.WordsSelectRowsByMatchAndMask := by
  intro w
  refine ⟨decode_eq_some_iff_word rfl, decode_eq_some_iff_word rfl, decode_eq_some_iff_word rfl,
    fun raw => ?hyst, fun v => ?gamma, fun v => ?scale, fun v => ?dither, fun d => ?setduty,
    fun i3 => ?rdreg⟩
  case hyst =>
    exact decode_eq_some_iff_operand (row := 0x3000#16) (q := 0xC) rfl (encode_hyst_toNat raw) rfl raw.isLt
  case gamma =>
    exact decode_eq_some_iff_operand (row := 0x4000#16) (q := 0x10) rfl (encode_gamma_toNat v) rfl v.isLt
  case scale =>
    exact decode_eq_some_iff_operand (row := 0x5000#16) (q := 0x14) rfl (encode_scale_toNat v) rfl v.isLt
  case dither =>
    exact decode_eq_some_iff_operand (row := 0x6000#16) (q := 0x18) rfl (encode_dither_toNat v) rfl v.isLt
  case setduty =>
    exact decode_eq_some_iff_operand (row := 0x7000#16) (q := 0x70) rfl (encode_setduty_toNat d) rfl d.isLt
  case rdreg =>
    have hrow := decode_eq_some_iff_row (w := w) (row := 0x8000#16) (q := 0x1000)
      (encode_rdreg_toNat i3) rfl i3.isLt
    rw [hrow, and_assoc]
    refine and_congr_right fun _ => and_congr_right fun (hi : i3.toNat = w.toNat % 8) => ?_
    rw [← hi]
    exact decide_eq_true_iff

/-- Settles O4: the lines of R74 are the numbers outside the ranges of the rows. -/
theorem illegalWordsAreTheListedOnes : Obligations.IllegalWordsAreTheListedOnes := by
  intro w
  have hlegal := decode_ne_none_iff (w := w)
  rw [mem_legalNumbers] at hlegal
  rw [← not_iff_not, ← ne_eq, hlegal]
  omega

/-- Settles O58: the operand's text reads back as the operand, which its type or R73 keeps in range. -/
theorem textAssemblesToTheWord : Obligations.TextAssemblesToTheWord := by
  intro i hi
  cases i with
  | init | measure | iter => decide
  | hyst raw => exact assembleLine_asmText (by decide) (by simp [asmOperand, raw.isLt])
  | gamma v => exact assembleLine_asmText (by decide) (by simp [asmOperand, v.isLt])
  | scale v => exact assembleLine_asmText (by decide) (by simp [asmOperand, v.isLt])
  | dither v => exact assembleLine_asmText (by decide) (by simp [asmOperand, v.isLt])
  | setduty d => exact assembleLine_asmText (by decide) (by simp [asmOperand, d.isLt])
  | rdreg i3 =>
    have hindex : i3.toNat < 5 := Nat.lt_succ_of_le (of_decide_eq_true hi)
    exact assembleLine_asmText (by decide) (by simp [asmOperand, hindex])

/-- Settles O5: the words that decode are those in the ranges of the rows. -/
theorem legalWordsNumber4360 : Obligations.LegalWordsNumber4360 := by
  calc (List.range 65536).countP (fun n => (decode (BitVec.ofNat 16 n)).isSome)
      = Nat.count (fun n => (decode (BitVec.ofNat 16 n)).isSome = true) 65536 := by simp [Nat.count]
    _ = legalNumbers.card := by rw [Nat.count_eq_card_filter_range, filter_decode_eq_legalNumbers]
    _ = 4360 := card_legalNumbers

/-- Settles O59: each of the six texts is assembled. -/
theorem pseudoOperationsAreAliases : Obligations.PseudoOperationsAreAliases := by
  refine ⟨fun p => ?_, rfl, rfl, rfl, rfl, rfl, rfl⟩
  cases p with
  | rdTracked | rdPhase | rdDuty | rdTcr | rdStatus | off => decide

end Sys2Proof.Machine
end

section
/-! The tracker under repeated samples, a run command by command, and which paths draw from the environment. -/

namespace Sys2Proof.Machine

/-- R108: a tracker at the sample or one below it does not move. -/
theorem hyst_of_settled {raw previous : Word10}
    (h : previous = raw ∨ previous.toNat + 1 = raw.toNat) : hyst raw previous = previous := by
  obtain rfl | hbelow := h
  · exact hyst_of_hold previous previous le_rfl (Nat.le_succ _)
  · exact hyst_of_hold raw previous (by omega) hbelow.ge

/-- R40: one sample leaves the tracker at the sample or one below it. -/
theorem hyst_settles (raw previous : Word10) :
    hyst raw previous = raw ∨ (hyst raw previous).toNat + 1 = raw.toNat := by
  have hcases := hyst_cases raw previous
  rw [← BitVec.toNat_inj]
  omega

/-- R108: after one sample, further samples of the same value change nothing. -/
theorem iterate_hyst_succ (raw previous : Word10) (n : Nat) :
    (hyst raw)^[n + 1] previous = hyst raw previous :=
  Function.iterate_fixed (hyst_of_settled (hyst_settles raw previous)) n

/-- A run whose first step is known goes on from that step's answer. -/
theorem run_succ_of_step {s u : State} (h : step s = .next u) (n : Nat) :
    Host.Core.run core (n + 1) s = Host.Core.run core n u := by
  have hcore : core.step s = .next u := h
  simp only [Host.Core.run, hcore]

/-- R104 for the word of `HYST raw` on a running block. -/
theorem step_of_hyst {s : State} {raw : Word10} {rest : List Input} (hr : s.halted = false)
    (hin : s.inputs = .cmd (encode (.hyst raw)) :: rest) :
    step s = .next (((s.setInputs rest).quiet.track raw).drive (hyst raw s.tracked)) :=
  (step_of_decode hin (decode_encode rfl)).trans ((RunsTo.hyst raw).exec_eq hr)

/-- A run of `n` commands `HYST raw` is `n` applications of the tracking function. -/
theorem run_replicate_hyst (raw : Word10) (n : Nat) (rest : List Input) (s : State)
    (hr : s.halted = false) (hin : s.inputs = commands (List.replicate n (.hyst raw)) ++ rest) :
    ∃ t, Host.Core.run core n s = .next t ∧ t.tracked = (hyst raw)^[n] s.tracked ∧
      t.inputs = rest := by
  induction n generalizing s with
  | zero => exact ⟨s, rfl, rfl, hin⟩
  | succ n ih =>
    rw [run_succ_of_step (step_of_hyst hr hin)]
    exact ih _ hr rfl

theorem adcNext_of_cons {s : State} {v : Word10} {rest : List Word10} (h : s.adcIn = v :: rest) :
    s.adcNext = v := by
  simp [State.adcNext, h]

section
variable (s : State)

@[simp] theorem configureChannel_conversions : s.configureChannel.conversions = s.conversions := by
  simp [configureChannel_eq]
@[simp] theorem configureChannel_adcIn : s.configureChannel.adcIn = s.adcIn := by
  simp [configureChannel_eq]
@[simp] theorem configureChannel_acqSamples : s.configureChannel.acqSamples = s.acqSamples := by
  simp [configureChannel_eq]
@[simp] theorem configureChannel_acqIn : s.configureChannel.acqIn = s.acqIn := by
  simp [configureChannel_eq]

end

/-- `INIT` is not among the operations of R214: on an Uninitialized driver it samples before it can fault. -/
theorem ne_init_of_needConfigured {i : Instr} {steps : State → SubSteps} {s : State}
    (hi : subSteps i = needConfigured steps) (hc : s.configured = false) : i ≠ .init := by
  rintro rfl
  have hone : initSteps s = [State.raise .notConfigured] :=
    (congrFun hi s).trans (needConfigured_of_uninitialized steps s hc)
  cases ha : s.acqNext
  · simp [initSteps_of_acqFail s hc ha] at hone
  · simp [initSteps_of_acqOk s hc ha] at hone

namespace RunsTo

variable {i : Instr} {s t : State}

/-- R101 and R214: a path triggers one conversion where the operation is `MEASURE` or `ITER` and the driver is
Configured, and otherwise none. -/
theorem conversions (h : RunsTo i s t) :
    (s.configured = true ∧ (i = .measure ∨ i = .iter) →
      t.conversions = s.conversions + 1 ∧ t.adcIn = s.adcIn.tail) ∧
    (¬ (s.configured = true ∧ (i = .measure ∨ i = .iter)) →
      t.conversions = s.conversions ∧ t.adcIn = s.adcIn) := by
  cases h with
  | notConfigured steps hi hc => exact ⟨by simp [hc], fun _ => ⟨rfl, rfl⟩⟩
  | measure hc => exact ⟨fun _ => ⟨rfl, rfl⟩, by simp [hc]⟩
  | iter hc => exact ⟨fun _ => ⟨rfl, rfl⟩, by simp [hc]⟩
  | iterOverflow hc => exact ⟨fun _ => ⟨rfl, rfl⟩, by simp [hc]⟩
  | init => simp
  | _ => exact ⟨by simp, fun _ => ⟨rfl, rfl⟩⟩

/-- R162 and R213: a path samples `ACQ_OK` once where the operation is `INIT` and the driver is Uninitialized,
and otherwise not. -/
theorem acqSamples (h : RunsTo i s t) :
    (s.configured = false ∧ i = .init →
      t.acqSamples = s.acqSamples + 1 ∧ t.acqIn = s.acqIn.tail) ∧
    (¬ (s.configured = false ∧ i = .init) →
      t.acqSamples = s.acqSamples ∧ t.acqIn = s.acqIn) := by
  cases h with
  | notConfigured steps hi hc =>
    exact ⟨by simp [ne_init_of_needConfigured hi hc], fun _ => ⟨rfl, rfl⟩⟩
  | reinit hc => exact ⟨by simp [hc], fun _ => ⟨rfl, rfl⟩⟩
  | acqFail hc => exact ⟨fun _ => ⟨rfl, rfl⟩, by simp [hc]⟩
  | init hc => simp [hc]
  | _ => exact ⟨by simp, fun _ => ⟨rfl, rfl⟩⟩

end RunsTo

end Sys2Proof.Machine
end

section
/-! The obligations of spec/40_hysteresis.md. -/

namespace Sys2Proof.Machine

/-- Settles O9: without the saturation the three clauses are those of `hyst_cases`. -/
theorem hystEqualsItsUnsaturatedForm : Obligations.HystEqualsItsUnsaturatedForm := by
  intro raw previous
  refine ⟨?unsaturated, ?hold, ?rise, hyst_of_fall raw previous⟩
  case unsaturated =>
    have hcases := hyst_cases raw previous
    split_ifs <;> omega
  case hold =>
    intro h
    exact hyst_of_hold raw previous (by omega) (by omega)
  case rise =>
    intro h
    exact ⟨hyst_of_rise raw previous h, by omega⟩

/-- Settles O12: the run applies the tracking function, and the first application is its fixed point. -/
theorem steadyInputSettlesInOneStep : Obligations.SteadyInputSettlesInOneStep := by
  intro s r n rest hr hin
  obtain ⟨t, hrun, htracked, hrest⟩ := run_replicate_hyst r (n + 1) rest s hr hin
  rw [iterate_hyst_succ] at htracked
  exact ⟨t, hrun, htracked, htracked ▸ hyst_settles r s.tracked, hrest⟩

/-- Settles O13: a sample one above is held, a sample one below is adopted. -/
theorem hystIsAsymmetric : Obligations.HystIsAsymmetric := by
  intro r up h
  exact ⟨hyst_of_settled (.inl rfl), hyst_of_settled (.inr h.symm), hyst_of_fall r up (by omega)⟩

/-- Settles O47: a halted block draws nothing, and each path of a running one draws as its operation says. -/
theorem drawsHappenExactlyOnce : Obligations.DrawsHappenExactlyOnce := by
  intro s t i h
  obtain ⟨hh, rfl⟩ | ⟨hr, hrun⟩ := exec_next h
  · exact ⟨by simp [hh], by simp [hh], fun _ => ⟨rfl, rfl⟩, fun _ => ⟨rfl, rfl⟩⟩
  · obtain ⟨hconverts, hconvertsNot⟩ := hrun.conversions
    obtain ⟨hsamples, hsamplesNot⟩ := hrun.acqSamples
    exact ⟨fun hc => hconverts hc.2, fun hc => hsamples hc.2,
      fun hc => hconvertsNot fun h => hc ⟨hr, h⟩, fun hc => hsamplesNot fun h => hc ⟨hr, h⟩⟩

/-- Settles O7: the two paths of `MEASURE`. -/
theorem measureReturnsOneDraw : Obligations.MeasureReturnsOneDraw := by
  refine ⟨fun s hr hc => (RunsTo.measure hc).exec_eq hr, ?listed,
    fun s hr hc => (RunsTo.notConfigured measureSteps rfl hc).exec_eq hr, rfl⟩
  case listed =>
    intro s v rest hr hc hadc
    exact ⟨_, (RunsTo.measure hc).exec_eq hr, congrArg some (adcNext_of_cons hadc), rfl⟩

/-- Settles O8: the saturation at 1023 changes no comparison with a 10-bit sample. -/
theorem hystFollowsItsThreeClauses : Obligations.HystFollowsItsThreeClauses := by
  intro raw previous
  have hraw := raw.isLt
  have hcases := hyst_cases raw previous
  split_ifs <;> omega

/-- Settles O10: the path of `HYST`, and its word as a number. -/
theorem hystUpdatesTracked : Obligations.HystUpdatesTracked :=
  ⟨fun _ raw hr => (RunsTo.hyst raw).exec_eq hr, encode_hyst_toNat⟩

/-- Settles O40: every operation begins with the prologue of R222. -/
theorem haltedBlockIgnoresEveryOperation : Obligations.HaltedBlockIgnoresEveryOperation := by
  intro s i hh
  rw [exec_eq_operate]
  exact operate_of_halted (subSteps i) s hh

end Sys2Proof.Machine
end

section
/-! The mapper's arithmetic on naturals, from the equations `gamma_toNat` and `scale_toNat`. -/

namespace Sys2Proof.Machine

theorem gamma_mono {v w : Word10} (h : v.toNat ≤ w.toNat) : (gamma v).toNat ≤ (gamma w).toNat := by
  rw [gamma_toNat, gamma_toNat]
  exact Nat.div_le_div_right (Nat.mul_le_mul h h)

theorem gamma_le (v : Word10) : (gamma v).toNat ≤ v.toNat := by
  have hv : v.toNat ≤ 1023 := Nat.le_of_lt_succ v.isLt
  rw [gamma_toNat]
  exact Nat.div_le_of_le_mul (Nat.mul_le_mul_right _ hv)

/-- Strictly between the two ends the square is less than 1023 times the operand. -/
theorem gamma_lt {v : Word10} (hpos : 0 < v.toNat) (hlt : v.toNat < 1023) :
    (gamma v).toNat < v.toNat := by
  rw [gamma_toNat]
  exact Nat.div_lt_of_lt_mul (Nat.mul_lt_mul_of_pos_right hlt hpos)

theorem gamma_eq_self_iff (v : Word10) : gamma v = v ↔ v = 0#10 ∨ v = 1023#10 := by
  constructor
  · intro hfixed
    have hnot : ¬ (0 < v.toNat ∧ v.toNat < 1023) := fun ⟨hpos, hlt⟩ =>
      (gamma_lt hpos hlt).ne (congrArg BitVec.toNat hfixed)
    bv_omega
  · rintro (rfl | rfl) <;> decide

/-- Below full scale a positive operand loses at least one, and 0 stays 0 (the bound inside `ITER`, R128). -/
theorem gamma_le_of_le_1022 {v : Word10} (h : v.toNat ≤ 1022) : (gamma v).toNat ≤ 1021 := by
  rcases Nat.eq_zero_or_pos v.toNat with hzero | hpos
  · have := gamma_le v
    omega
  · have := gamma_lt hpos (by omega)
    omega

/-- An upper bound of the operand gives one of the capped value. -/
theorem scale_le_of_le (cap : Config.Cap) {v : Word10} {n : Nat} (h : v.toNat ≤ n) :
    (scale cap v).toNat ≤ n * cap.val / 100 := by
  rw [scale_toNat]
  exact Nat.div_le_div_right (Nat.mul_le_mul_right _ h)

theorem scale_mono (cap : Config.Cap) {v w : Word10} (h : v.toNat ≤ w.toNat) :
    (scale cap v).toNat ≤ (scale cap w).toNat :=
  scale_toNat cap w ▸ scale_le_of_le cap h

theorem scale_mono_cap {cap cap' : Config.Cap} (v : Word10) (h : cap.val ≤ cap'.val) :
    (scale cap v).toNat ≤ (scale cap' v).toNat := by
  rw [scale_toNat, scale_toNat]
  exact Nat.div_le_div_right (Nat.mul_le_mul_left _ h)

theorem scale_full (v : Word10) : scale 100 v = v :=
  BitVec.eq_of_toNat_eq ((scale_toNat 100 v).trans (Nat.mul_div_cancel _ (by decide)))

theorem scale_zero (v : Word10) : scale 0 v = 0#10 :=
  BitVec.eq_of_toNat_eq ((scale_toNat 0 v).trans (by simp))

theorem scale_le (cap : Config.Cap) (v : Word10) : (scale cap v).toNat ≤ v.toNat :=
  calc (scale cap v).toNat
    _ ≤ (scale 100 v).toNat := scale_mono_cap v (Nat.le_of_lt_succ cap.isLt)
    _ = v.toNat := by rw [scale_full]

end Sys2Proof.Machine
end

section
/-! The obligations of spec/41_mapper.md. -/

namespace Sys2Proof.Machine

/-- Settles O15: strictly between 0 and 1023 the correction is below its operand. -/
theorem gammaIsMonotonicAndBounded : Obligations.GammaIsMonotonicAndBounded :=
  ⟨(gamma_eq_self_iff _).mpr (.inl rfl), (gamma_eq_self_iff _).mpr (.inr rfl), fun _ _ => gamma_mono,
    fun v => ⟨Nat.le_of_lt_succ (gamma v).isLt, gamma_le v, gamma_eq_self_iff v⟩⟩

/-- Settles O17: cap 100 is the identity, so monotonicity in the cap bounds every other cap. -/
theorem scaleIsMonotonicAndBounded : Obligations.ScaleIsMonotonicAndBounded :=
  ⟨fun v => ⟨scale_full v, scale_zero v⟩, scale_le, fun cap _ _ => scale_mono cap,
    fun _ _ => scale_mono_cap⟩

/-- Settles O18: a bound of the corrected value gives a bound of the capped one. -/
theorem powerCappedIsBounded : Obligations.PowerCappedIsBounded :=
  ⟨fun cap v => scale_le_of_le cap (Nat.le_of_lt_succ (gamma v).isLt),
    fun cap _ h => scale_le_of_le cap (gamma_le_of_le_1022 h), by decide, by decide⟩

/-- Settles O14: the path of `GAMMA`; the square over 1023 is a 10-bit value, so the clamp never acts. -/
theorem gammaDrivesTheFloorOfTheSquare : Obligations.GammaDrivesTheFloorOfTheSquare := by
  refine ⟨fun s v hr => ⟨gamma v, (RunsTo.gamma v).exec_eq hr, ?clamped⟩, encode_gamma_toNat⟩
  have hle : (gamma v).toNat ≤ 1023 := Nat.le_of_lt_succ (gamma v).isLt
  rw [← gamma_toNat, Nat.max_zero, Nat.min_eq_left hle]

/-- Settles O16: the path of `SCALE`, at the cap the block carries. -/
theorem scaleDrivesTheCappedValue : Obligations.ScaleDrivesTheCappedValue :=
  ⟨fun s v hr => ⟨scale s.percentCap v, (RunsTo.scale v).exec_eq hr, scale_toNat s.percentCap v⟩,
    encode_scale_toNat⟩

end Sys2Proof.Machine
end

section
/-! The ditherer's table over one cycle of phases, where its sum fits, and when `DITHER` and `ITER` halt. -/

namespace Sys2Proof.Machine

/-- The table as the Boolean function of R140. -/
theorem ditherEntry_eq (r : BitVec 2) (p : Phase) :
    ditherEntry r p =
      if (p.toNat = 0 ∧ 1 ≤ r.toNat) ∨ (p.toNat = 1 ∧ r.toNat = 3) ∨ (p.toNat = 2 ∧ 2 ≤ r.toNat)
      then 1 else 0 := by
  revert r p; decide

/-- R147: from any phase, four frames in a row add the remainder. -/
theorem ditherEntry_cycle (r : BitVec 2) (p : Phase) :
    ditherEntry r p + ditherEntry r (nextPhase p) + ditherEntry r (nextPhase (nextPhase p)) +
      ditherEntry r (nextPhase (nextPhase (nextPhase p))) = r.toNat := by
  revert r p; decide

/-- R145: the phase has period four. -/
theorem nextPhase_cycle (p : Phase) :
    nextPhase (nextPhase (nextPhase (nextPhase p))) = p := by
  revert p; decide

theorem iterate_nextPhase_toNat (n : Nat) (p : Phase) :
    (nextPhase^[n] p).toNat = (p.toNat + n) % 4 := by
  induction n with
  | zero => exact (Nat.mod_eq_of_lt p.isLt).symm
  | succ n ih =>
    rw [Function.iterate_succ_apply', nextPhase_toNat, ih]
    omega

theorem nextPhase_eq_ofNat (p : Phase) : nextPhase p = BitVec.ofNat 2 ((p.toNat + 1) % 4) :=
  BitVec.eq_of_toNat_eq (by simp [nextPhase_toNat])

/-- A 2-bit number with the value of the remainder is the remainder (R141). -/
theorem eq_rem2_of_toNat {r : BitVec 2} {v : Word10} (h : r.toNat = v.toNat % 4) : r = rem2 v :=
  BitVec.eq_of_toNat_eq (h.trans (rem2_toNat v).symm)

/-- The duty on the result port is the sum (R144). -/
theorem duty_setWidth_of_fits {v : Word10} {p : Phase} (h : (ditherSum v p).toNat ≤ 255) :
    ((ditherSum v p).setWidth 8).setWidth 10 =
      BitVec.ofNat 10 (v.toNat / 4 + ditherEntry (rem2 v) p) := by
  apply BitVec.eq_of_toNat_eq
  rw [BitVec.toNat_setWidth, duty_of_fits v p h, BitVec.toNat_ofNat]

/-- The sum does not fit for exactly the six pairs of R144. -/
theorem ditherSum_overflow_iff (v : Word10) (p : Phase) :
    255 < (ditherSum v p).toNat ↔ (v.toNat, p.toNat) ∈
      [(1021, 0), (1022, 0), (1022, 2), (1023, 0), (1023, 1), (1023, 2)] := by
  have hv := v.isLt
  rw [ditherSum_toNat, ditherEntry_eq, rem2_toNat]
  simp only [List.mem_cons, Prod.mk.injEq, List.not_mem_nil, or_false]
  split_ifs <;> omega

/-- R147: an operand of at most 1020 fits in every phase. -/
theorem ditherSum_le_of_le_1020 {v : Word10} (h : v.toNat ≤ 1020) (p : Phase) :
    (ditherSum v p).toNat ≤ 255 := by
  have hpairs := ditherSum_overflow_iff v p
  simp only [List.mem_cons, Prod.mk.injEq, List.not_mem_nil, or_false] at hpairs
  omega

/-- R144: `DITHER` halts a running block exactly where the sum does not fit. -/
theorem exec_dither_halted_iff {s : State} (hr : s.halted = false) (v : Word10) :
    ∃ t, exec (.dither v) s = .next t ∧ (t.halted = true ↔ 255 < (ditherSum v s.phase).toNat) := by
  rcases Nat.lt_or_ge 255 (ditherSum v s.phase).toNat with hover | hfit
  · exact ⟨_, (RunsTo.ditherOverflow v hover).exec_eq hr, by simp [hover]⟩
  · exact ⟨_, (RunsTo.dither v hfit).exec_eq hr, by simp [hr, hfit]⟩

/-- R190 and R192: `ITER` halts a running Configured block exactly where the ditherer's sum does not fit. -/
theorem exec_iter_halted_iff {s : State} (hr : s.halted = false) (hc : s.configured = true) :
    ∃ t, exec .iter s = .next t ∧
      (t.halted = true ↔ 255 < (ditherSum s.iterOperand s.phase).toNat) := by
  rcases Nat.lt_or_ge 255 (ditherSum s.iterOperand s.phase).toNat with hover | hfit
  · exact ⟨_, (RunsTo.iterOverflow hc hover).exec_eq hr, by simp [hover]⟩
  · refine ⟨_, (RunsTo.iter hc hfit).exec_eq hr, iff_of_false ?_ hfit.not_gt⟩
    exact ne_true_of_eq_false hr

/-- R253: the mapper gives its largest value 1021 only at the full cap and the largest tracked value. -/
theorem scale_gamma_eq_1021_iff (cap : Config.Cap) {t : Word10} (h : t.toNat ≤ 1022) :
    (scale cap (gamma t)).toNat = 1021 ↔ cap.val = 100 ∧ t.toNat = 1022 := by
  constructor
  · intro hmax
    have hcap := scale_le_of_le cap (gamma_le_of_le_1022 h)
    have hscale := scale_le cap (gamma t)
    have hgamma := gamma_lt (v := t) (by have := gamma_le t; omega) (by omega)
    have := cap.isLt
    omega
  · rintro ⟨hcap, ht⟩
    obtain rfl : cap = 100 := Fin.ext hcap
    obtain rfl : t = 1022#10 := BitVec.eq_of_toNat_eq ht
    decide

end Sys2Proof.Machine
end

section
/-! Runs of `DITHER` commands: they go on while the frames fit, and a frame that does not fit ends them. -/

namespace Sys2Proof.Machine

/-- In a run of `DITHER` commands that begins at a phase every sum fits: no frame faults. -/
def framesFit : List Word10 → Phase → Prop
  | [], _ => True
  | v :: vs, p => (ditherSum v p).toNat ≤ 255 ∧ framesFit vs (nextPhase p)

/-- R147, for mixed operands. -/
theorem framesFit_of_le_1020 {vs : List Word10} (h : ∀ v ∈ vs, v.toNat ≤ 1020) (p : Phase) :
    framesFit vs p := by
  induction vs generalizing p with
  | nil => trivial
  | cons v vs ih =>
    rw [List.forall_mem_cons] at h
    exact ⟨ditherSum_le_of_le_1020 h.1 p, ih h.2 _⟩

/-- R147: above 1020 the four frames would have to add up to more than four times 255. -/
theorem not_framesFit_replicate_four {v : Word10} (h : 1021 ≤ v.toNat) (p : Phase) :
    ¬ framesFit (List.replicate 4 v) p := by
  rintro ⟨h1, h2, h3, h4, -⟩
  have hcycle := ditherEntry_cycle (rem2 v) p
  rw [ditherSum_toNat] at h1 h2 h3 h4
  rw [rem2_toNat] at hcycle
  omega

/-- The presented word of an operation takes the operation's path. -/
theorem step_of_runsTo {i : Instr} {s t : State} {rest : List Input} (hr : s.halted = false)
    (hi : i.wellFormed = true) (hin : s.inputs = .cmd (encode i) :: rest)
    (h : RunsTo i (s.setInputs rest) t) : step s = .next t :=
  (step_of_decode hin (decode_encode hi)).trans (h.exec_eq hr)

/-- R145: a run in which every frame fits advances the phase once for each command. -/
theorem run_of_framesFit (vs : List Word10) (rest : List Input) (s : State) (hr : s.halted = false)
    (hin : s.inputs = commands (vs.map Instr.dither) ++ rest) (hfit : framesFit vs s.phase) :
    ∃ t, Host.Core.run core vs.length s = .next t ∧ t.good ∧
      t.phase = nextPhase^[vs.length] s.phase ∧ t.inputs = rest := by
  induction vs generalizing s with
  | nil => exact ⟨s, rfl, hr, rfl, hin⟩
  | cons v vs ih =>
    obtain ⟨hfirst, hlater⟩ := hfit
    rw [List.length_cons, run_succ_of_step (step_of_runsTo hr rfl hin (.dither v hfirst))]
    exact ih _ hr rfl hlater

/-- R222: a halted block ignores a command word, legal or not. -/
theorem step_of_cmd_of_halted {s : State} {w : CmdWord} {rest : List Input} (hh : s.halted = true)
    (hin : s.inputs = .cmd w :: rest) : step s = .next (s.setInputs rest).quiet := by
  rw [step_of_cons s _ rest hin, handle, execWord_eq_operate]
  exact operate_of_halted _ _ hh

/-- R222: through any run of commands a halted block keeps its five registers. -/
theorem run_commands_of_halted (ops : List Instr) (rest : List Input) (s : State)
    (hh : s.halted = true) (hin : s.inputs = commands ops ++ rest) :
    ∃ t, Host.Core.run core ops.length s = .next t ∧ t.regs = s.regs := by
  induction ops generalizing s with
  | nil => exact ⟨s, rfl, rfl⟩
  | cons i ops ih =>
    rw [List.length_cons, run_succ_of_step (step_of_cmd_of_halted hh hin)]
    exact ih _ hh rfl

/-- R146: a run in which some frame does not fit ends in the `DUTY_OVERFLOW` halt. -/
theorem run_of_not_framesFit (vs : List Word10) (rest : List Input) (s : State)
    (hr : s.halted = false) (hin : s.inputs = commands (vs.map Instr.dither) ++ rest)
    (hover : ¬ framesFit vs s.phase) :
    ∃ t, Host.Core.run core vs.length s = .next t ∧ t.halted = true ∧
      t.cause = Cause.dutyOverflow.code := by
  induction vs generalizing s with
  | nil => exact absurd trivial hover
  | cons v vs ih =>
    rw [List.length_cons]
    rcases Nat.lt_or_ge 255 (ditherSum v s.phase).toNat with hfirst | hfirst
    · rw [run_succ_of_step (step_of_runsTo hr rfl hin (.ditherOverflow v hfirst))]
      obtain ⟨t, hrun, hregs⟩ := run_commands_of_halted (vs.map Instr.dither) rest
        ((s.setInputs _).quiet.raise .dutyOverflow) (raise_halted _ _) rfl
      rw [List.length_map] at hrun
      have hstatus := congrArg Regs.status hregs
      exact ⟨t, hrun, (congrArg statusHalted hstatus).trans (raise_halted _ _),
        (congrArg statusCause hstatus).trans (raise_cause _ _)⟩
    · rw [run_succ_of_step (step_of_runsTo hr rfl hin (.dither v hfirst))]
      exact ih _ hr rfl fun hlater => hover ⟨hfirst, hlater⟩

end Sys2Proof.Machine
end

section
/-! The obligations of spec/42_dither.md. -/

namespace Sys2Proof.Machine

/-- Settles O20: the two paths of `DITHER`, with the sum and the next phase as numbers. -/
theorem ditherProducesOneFrame : Obligations.DitherProducesOneFrame := by
  refine ⟨?fits, ?overflow, encode_dither_toNat⟩
  case fits =>
    rintro s v r sum hr hrem rfl hle
    obtain rfl := eq_rem2_of_toNat hrem
    have hfit : (ditherSum v s.phase).toNat ≤ 255 := (ditherSum_toNat v s.phase).trans_le hle
    rw [(RunsTo.dither v hfit).exec_eq hr, duty_setWidth_of_fits hfit, nextPhase_eq_ofNat]
    rfl
  case overflow =>
    intro s v r hr hrem hgt
    obtain rfl := eq_rem2_of_toNat hrem
    have hover : 255 < (ditherSum v s.phase).toNat := hgt.trans_eq (ditherSum_toNat v s.phase).symm
    exact (RunsTo.ditherOverflow v hover).exec_eq hr

/-- Settles O21: `DITHER` halts where its sum does not fit, which the table allows for six pairs. -/
theorem ditherOverflowsForSixPairs : Obligations.DitherOverflowsForSixPairs := by
  intro s v hr
  obtain ⟨t, hexec, hhalted⟩ := exec_dither_halted_iff hr v
  exact ⟨t, hexec, hhalted.trans (ditherSum_overflow_iff v s.phase)⟩

/-- Settles O22: over one cycle of phases the four entries add up to the remainder. -/
theorem fourFramesReconstructTheValue : Obligations.FourFramesReconstructTheValue := by
  refine ⟨?reconstructs, ?faults⟩
  case reconstructs =>
    intro s v hr hle
    have hfit := ditherSum_le_of_le_1020 hle
    refine ⟨_, _, _, _, _, _, _, _, (RunsTo.dither v (hfit _)).exec_eq hr, rfl,
      (RunsTo.dither v (hfit _)).exec_eq hr, rfl, (RunsTo.dither v (hfit _)).exec_eq hr, rfl,
      (RunsTo.dither v (hfit _)).exec_eq hr, rfl, ?sum, ?regs⟩
    case sum =>
      have hcycle := ditherEntry_cycle (rem2 v) s.phase
      rw [rem2_toNat] at hcycle
      simp only [duty_of_fits v _ (hfit _), drive_phase, setPhase_phase]
      omega
    case regs => simp [State.regs, nextPhase_cycle]
  case faults =>
    intro s v rest hr hge hin
    exact run_of_not_framesFit (List.replicate 4 v) rest s hr hin
      (not_framesFit_replicate_four hge s.phase)

/-- Settles O23: operands of at most 1020 fit in every frame. -/
theorem phaseCountsFrames : Obligations.PhaseCountsFrames := by
  intro s vs rest hr hle hin
  obtain ⟨t, hrun, hgood, hphase, hrest⟩ :=
    run_of_framesFit vs rest s hr hin (framesFit_of_le_1020 hle s.phase)
  exact ⟨t, hrun, hgood, hphase ▸ iterate_nextPhase_toNat vs.length s.phase, hrest⟩

/-- Settles O35: the ditherer's operand is at most 1021, and of the six pairs only 1021 at phase 0 is left. -/
theorem iterOverflowsOnlyAtFullCap : Obligations.IterOverflowsOnlyAtFullCap := by
  rintro s ⟨hc, hr, htracked⟩
  obtain ⟨t, hexec, hhalted⟩ := exec_iter_halted_iff hr hc
  have hle := hyst_le_1022 s.adcNext s.tracked htracked
  have hoperand : s.iterOperand.toNat ≤ 1021 :=
    (scale_le s.percentCap _).trans (gamma_le_of_le_1022 hle)
  have hpair : 255 < (ditherSum s.iterOperand s.phase).toNat ↔
      s.iterOperand.toNat = 1021 ∧ s.phase.toNat = 0 := by
    rw [ditherSum_overflow_iff]
    simp only [List.mem_cons, Prod.mk.injEq, List.not_mem_nil, or_false]
    omega
  refine ⟨t, hexec, hhalted.trans (hpair.trans ?_)⟩
  rw [State.iterOperand, scale_gamma_eq_1021_iff s.percentCap hle, and_assoc]

/-- Settles O19: the second clause is the cycle that begins at phase 0. -/
theorem ditherTableIsThePattern : Obligations.DitherTableIsThePattern :=
  ⟨ditherEntry_eq, fun r => ditherEntry_cycle r 0⟩

end Sys2Proof.Machine
end

section
/-! What the driver's operations leave: the result of `INIT` and the moments it shows, the register space, the
inversion, and the words that select none of them. -/

namespace Sys2Proof

theorem decode_eq_none_iff {w : CmdWord} : decode w = none ↔ w.toNat ∉ legalNumbers := by
  rw [← decode_ne_none_iff, not_not]

end Sys2Proof

namespace Sys2Proof.Machine

section
variable (s : State)

@[simp] theorem configureChannel_tcr : s.configureChannel.tcr = tcrWord s.other true true := by
  simp [configureChannel_eq]

/-- What sub-steps 1 and 2 of `INIT` write (R161): the channel is configured, at application duty 0. -/
def State.darkChannel (s : State) : State := s.setPwmEn.setDuty 255#8

/-- R163: `INIT` shows itself after each of its writes but the release of the lock. -/
theorem configureChannel_trace :
    s.configureChannel.trace = s.trace ++ [s.setPwmEn.moment, s.darkChannel.moment,
      (s.darkChannel.setIrqLock true).moment, (s.darkChannel.setIrqLock true).setInv.moment] := by
  simp only [configureChannel_eq, setIrqLock_trace, observe_trace, setInv_trace, setDuty_trace,
    setPwmEn_trace, List.append_assoc, List.cons_append, List.nil_append]
  rfl

/-- A state is its fields, so that the laws of the single fields give the whole of it. -/
theorem state_mk_fields :
    (⟨s.tracked, s.phase, s.duty, s.tcr, s.status, s.irqLock, s.res, s.hostIntEnable, s.percentCap,
      s.trace, s.inputs, s.adcIn, s.conversions, s.acqIn, s.acqSamples⟩ : State) = s := rfl

/-- R161: all that `INIT` writes once `ACQ_OK` is sampled. -/
theorem configure_eq_update {s : State} (hr : s.halted = false) :
    s.configureChannel.setConfigured = { s with
      tcr := tcrWord s.other true true, duty := 255#8, status := statusWord s.cause false true
      irqLock := false, trace := s.configureChannel.trace } := by
  rw [← state_mk_fields s.configureChannel.setConfigured]
  simp [hr]

/-- R218: under the lock no handler runs. -/
theorem moment_setIrqLock_true :
    (s.setIrqLock true).moment = { s.moment with irqLock := true, handlerMayRun := false } := by
  simp [State.moment, State.handlerMayRun]

/-- R54: on a configured channel the atomic update of `TCR` sets `INV` beside `PWM_EN`. -/
theorem moment_setInv {s : State} (h : s.pwmEn = true) :
    s.setInv.moment = { s.moment with tcr := tcrWord s.other true true } := by
  simp [State.moment, State.handlerMayRun, h]

/-- Between operations the lock is released, so that the host's own enable decides. -/
theorem BlockInv.handlerMayRun {s : State} (h : BlockInv s) : s.handlerMayRun = s.hostIntEnable := by
  simp [State.handlerMayRun, h.unlocked]

/-- R170 and R31: without a fault the cause and `HALTED` are 0, and `CONFIGURED` is all of `STATUS`. -/
theorem BlockInv.status_of_running {s : State} (h : BlockInv s) (hr : s.halted = false) :
    s.status = statusWord 0 false s.configured := by
  have hcause : s.cause = 0 := by simpa [hr] using h.halted_iff_cause
  rw [← hr, ← hcause]
  exact (statusWord_fields s.status).symm

theorem statusWord_configured_setWidth (c : Bool) :
    (statusWord 0 false c).setWidth 10 = if c then 1#10 else 0#10 := by
  cases c <;> rfl

/-- R35 and R55: an implemented index reads its register, zero-extended. -/
theorem exists_regRead_of_le {i : RegIndex} (hi : i.toNat ≤ 4) :
    ∃ r : Word10, s.regRead i = some r ∧
      (i.toNat = 0 → r = s.tracked) ∧
      (i.toNat = 1 → r.toNat = s.phase.toNat) ∧
      (i.toNat = 2 → r.toNat = s.duty.toNat) ∧
      (i.toNat = 3 → r.toNat = s.tcr.toNat) ∧
      (i.toNat = 4 → r.toNat = s.status.toNat) := by
  interval_cases hindex : i.toNat <;>
    simp [State.regRead, hindex, BitVec.toNat_setWidth_of_le, -BitVec.toNat_setWidth]

end

/-- R167: the inversion is the bitwise complement. -/
theorem invert_eq_not (d : Duty) : invert d = ~~~d := BitVec.allOnes_sub_eq_not d

theorem invert_invert (d : Duty) : invert (invert d) = d := by
  rw [invert_eq_not, invert_eq_not, BitVec.not_not]

/-- R164: no path of an operation clears `CONFIGURED`; a fault keeps it (R221). -/
theorem RunsTo.configured {i : Instr} {s t : State} (h : RunsTo i s t) (hc : s.configured = true) :
    t.configured = true := by
  cases h with
  | notConfigured => exact (raise_configured _ _).trans hc
  | reinit => exact (raise_configured _ _).trans hc
  | acqFail hc' => rw [hc] at hc'; cases hc'
  | init => exact setConfigured_configured _
  | ditherOverflow => exact (raise_configured _ _).trans hc
  | rdregUnimplemented => exact (raise_configured _ _).trans hc
  | iterOverflow => exact (raise_configured _ _).trans hc
  | _ => exact hc

/-- R164, input by input: only a reset request leaves Configured. -/
theorem handle_configured {i : Input} {s t : State} (h : handle i s = .next t)
    (hc : s.configured = true) : t.configured = true ∨ ∃ a d o, i = .rst a d o := by
  cases i with
  | cmd w =>
    obtain rfl | rfl | ⟨-, i, -, hrun⟩ := execWord_next h
    · exact .inl hc
    · exact .inl ((raise_configured _ _).trans hc)
    · exact .inl (hrun.configured hc)
  | rst during d o => exact .inr ⟨during, d, o, rfl⟩
  | hostTimerBits o =>
    obtain rfl := Host.Outcome.next.inj h
    exact .inl hc
  | hostIntEnable on =>
    obtain rfl := Host.Outcome.next.inj h
    exact .inl hc

end Sys2Proof.Machine
end

section
/-! The obligations of spec/43_pwm_driver.md. -/

namespace Sys2Proof.Machine

/-- Settles O24: the path of a successful `INIT`, with all it writes and the moments it shows. -/
theorem initConfiguresTheChannel : Obligations.InitConfiguresTheChannel := by
  refine ⟨?path, rfl⟩
  case path =>
    intro s hr hc ha
    refine ⟨s.setPwmEn.moment, s.darkChannel.moment, (s.darkChannel.setIrqLock true).moment,
      (s.darkChannel.setIrqLock true).setInv.moment, ?state, rfl, rfl, moment_setIrqLock_true _, ?switched⟩
    case state =>
      rw [(RunsTo.init hc ha).exec_eq hr, configure_eq_update (s := s.quiet.sampleAcq) hr,
        configureChannel_trace]
      rfl
    case switched => simp [moment_setInv, State.darkChannel]

/-- Settles O25: the lock is released at the first two moments alone, and there `INV` is still 0. -/
theorem initShowsTwoIntermediateStates : Obligations.InitShowsTwoIntermediateStates := by
  intro s hs hr hc ha hen
  obtain ⟨initial, -⟩ := initConfiguresTheChannel
  obtain ⟨m1, m2, m3, m4, hexec, rfl, rfl, rfl, rfl⟩ := initial s hr hc ha
  obtain ⟨-, hinv⟩ := hs.uninitialized_plain hc
  have hrun : s.handlerMayRun = true := hs.handlerMayRun.trans hen
  refine ⟨_, hexec, ?_, ?_, rfl, rfl⟩
  · simp [hrun, hinv]
  · simp [hs.unlocked]

/-- Settles O28: reading `DUTY` back gives the complement of the duty that was programmed. -/
theorem inversionIsItsOwnInverse : Obligations.InversionIsItsOwnInverse := by
  refine ⟨?readBack, fun d => ⟨invert_invert d, invert_eq_not d, invert_toNat d⟩⟩
  case readBack =>
    intro s d hr hc
    refine ⟨_, _, (RunsTo.setduty d hc).exec_eq hr, (RunsTo.rdreg 2#3 _ rfl).exec_eq hr, ?_⟩
    rw [← invert_toNat]
    exact congrArg some (BitVec.ofNat_toNat 10 _).symm

/-- Settles O30: on a running block `STATUS` is `CONFIGURED` alone. -/
theorem statusReadsAsTheDriverState : Obligations.StatusReadsAsTheDriverState := by
  intro s hs hr
  refine ⟨_, (RunsTo.rdreg 4#3 _ rfl).exec_eq hr, congrArg some ?_⟩
  rw [hs.status_of_running hr, statusWord_configured_setWidth]

/-- Settles O45: idle or the next input, and each input but a reset request keeps Configured. -/
theorem onlyResetLeavesConfigured : Obligations.OnlyResetLeavesConfigured := by
  intro s t hc h
  obtain ⟨-, rfl⟩ | ⟨i, rest, hin, hi⟩ := step_next h
  · exact .inl hc
  · simpa [hin] using handle_configured hi hc

/-- Settles O27: the two paths of `SETDUTY`, and its words as numbers. -/
theorem setdutyStoresTheInvertedDuty : Obligations.SetdutyStoresTheInvertedDuty := by
  refine ⟨fun s d hr hc => ⟨invert d, (RunsTo.setduty d hc).exec_eq hr, invert_toNat d⟩,
    fun s d hr hc => (RunsTo.notConfigured (setdutySteps d) rfl hc).exec_eq hr,
    encode_setduty_toNat, ?illegal⟩
  case illegal =>
    intro w hfirst hlast
    rw [decode_eq_none_iff, mem_legalNumbers]
    omega

/-- Settles O29: an implemented index is read, and the words past the last one are outside the row. -/
theorem rdregReadsTheRegisterSpace : Obligations.RdregReadsTheRegisterSpace := by
  refine ⟨?reads, encode_rdreg_toNat, ?illegal⟩
  case reads =>
    intro s i hr hi
    obtain ⟨r, hread, hvalue⟩ := exists_regRead_of_le s hi
    exact ⟨r, (RunsTo.rdreg i r hread).exec_eq hr, hvalue⟩
  case illegal =>
    intro w hfirst hlast
    rw [decode_eq_none_iff, mem_legalNumbers]
    omega

end Sys2Proof.Machine
end

section
/-! `ITER` by its stages: the operand it brings to the ditherer, the caps at which the sum fits, the duty it then
programs, and runs in which no step faults. -/

namespace Sys2Proof.Machine

/-- R166 and R190: stage 6 programs the complement of the sum. -/
theorem invert_duty_of_fits {v : Word10} {p : Phase} (h : (ditherSum v p).toNat ≤ 255) :
    invert ((ditherSum v p).setWidth 8) =
      BitVec.ofNat 8 (255 - (v.toNat / 4 + ditherEntry (rem2 v) p)) := by
  apply BitVec.eq_of_toNat_eq
  rw [invert_toNat, duty_of_fits v p h, BitVec.toNat_ofNat]
  omega

/-- R149: a cap of at most 99 keeps the ditherer's operand at most 1012, so that its sum fits in every phase. -/
theorem iterOperand_fits {s : State} (hcap : s.percentCap.val ≤ 99) :
    (ditherSum s.iterOperand s.phase).toNat ≤ 255 := by
  have hgamma : (gamma (hyst s.adcNext s.tracked)).toNat ≤ 1023 :=
    Nat.le_of_lt_succ (gamma (hyst s.adcNext s.tracked)).isLt
  have hoperand : s.iterOperand.toNat ≤ 1023 * s.percentCap.val / 100 :=
    scale_le_of_le s.percentCap hgamma
  exact ditherSum_le_of_le_1020 (by omega) s.phase

/-- R194: one presented `ITER` below the full cap keeps the launch predicate and everything a run of them counts. -/
theorem exists_step_of_iter {s : State} {rest : List Input} (hs : s.launched)
    (hcap : s.percentCap.val ≤ 99) (hin : s.inputs = .cmd (encode .iter) :: rest) :
    ∃ u, step s = .next u ∧ u.launched ∧ u.percentCap = s.percentCap ∧ u.phase = nextPhase s.phase ∧
      u.conversions = s.conversions + 1 ∧ u.tcr = s.tcr ∧ u.inputs = rest := by
  obtain ⟨hc, hr, htracked⟩ := hs
  exact ⟨_, step_of_runsTo hr rfl hin (.iter hc (iterOperand_fits hcap)),
    ⟨hc, hr, hyst_le_1022 _ s.tracked htracked⟩, rfl, rfl, rfl, rfl, rfl⟩

/-- The block before stage 5 of `ITER`, with the ditherer's operand on the result port as `SCALE` leaves it. -/
def State.beforeDither (s : State) : State :=
  (s.quiet.convert.track s.adcNext).drive s.iterOperand

/-- R191, stages 1 to 4: each operation takes the result of the one before. -/
theorem exec_stages_before_dither {s : State} (hr : s.halted = false) (hc : s.configured = true) :
    ∃ (s1 s2 s3 : State) (r t g : Word10),
      exec .measure s = .next s1 ∧ s1.res = some r ∧
      exec (.hyst r) s1 = .next s2 ∧ s2.res = some t ∧
      exec (.gamma t) s2 = .next s3 ∧ s3.res = some g ∧
      exec (.scale g) s3 = .next s.beforeDither :=
  ⟨_, _, _, s.adcNext, hyst s.adcNext s.tracked, gamma (hyst s.adcNext s.tracked),
    (RunsTo.measure hc).exec_eq hr, rfl, (RunsTo.hyst s.adcNext).exec_eq hr, rfl,
    (RunsTo.gamma _).exec_eq hr, rfl, (RunsTo.scale _).exec_eq hr⟩

theorem goodRun_zero {s : State} (hs : s.good) : goodRun 0 s := by
  intro k hk
  obtain rfl := Nat.le_zero.mp hk
  exact ⟨s, rfl, hs⟩

/-- A good state whose step is followed by a good run begins a good run. -/
theorem goodRun_succ_of_step {s u : State} {n : Nat} (hs : s.good) (hstep : step s = .next u)
    (hu : goodRun n u) : goodRun (n + 1) s := by
  intro k hk
  cases k with
  | zero => exact ⟨s, rfl, hs⟩
  | succ k =>
    rw [run_succ_of_step hstep]
    exact hu k (Nat.le_of_succ_le_succ hk)

end Sys2Proof.Machine
end

section
/-! The obligations of spec/44_control_loop.md. -/

namespace Sys2Proof.Machine

/-- Settles O32: the three paths of `ITER`, with the sum, the next phase and the duty as numbers. -/
theorem iterRunsItsSixStages : Obligations.IterRunsItsSixStages := by
  refine ⟨?configured, fun s hr hc => (RunsTo.notConfigured iterSteps rfl hc).exec_eq hr, rfl⟩
  case configured =>
    rintro s _ _ r sum hr hc rfl rfl hrem rfl
    obtain rfl := eq_rem2_of_toNat hrem
    have hsum := ditherSum_toNat s.iterOperand s.phase
    constructor
    · intro hle
      have hfit : (ditherSum s.iterOperand s.phase).toNat ≤ 255 := hsum.trans_le hle
      rw [(RunsTo.iter hc hfit).exec_eq hr, State.program, invert_duty_of_fits hfit,
        duty_setWidth_of_fits hfit, nextPhase_eq_ofNat]
      rfl
    · intro hgt
      exact (RunsTo.iterOverflow hc (hgt.trans_eq hsum.symm)).exec_eq hr

/-- Settles O33: the first four bring the ditherer the phase and the operand it has in `ITER`, so that its sum fits
in both or in neither. -/
theorem iterEqualsTheSixOperations : Obligations.IterEqualsTheSixOperations := by
  intro s hr hc
  obtain ⟨s1, s2, s3, r, t, g, h1, hres1, h2, hres2, h3, hres3, h4⟩ := exec_stages_before_dither hr hc
  refine ⟨s1, s2, s3, s.beforeDither, ?_⟩
  rcases Nat.lt_or_ge 255 (ditherSum s.iterOperand s.phase).toNat with hover | hfit
  · have h5 := RunsTo.ditherOverflow (s := s.beforeDither) s.iterOperand hover
    exact ⟨_, r, t, g, s.iterOperand, h1, hres1, h2, hres2, h3, hres3, h4, rfl, h5.exec_eq hr,
      .inr ⟨raise_halted _ _, raise_cause _ _, rfl, (RunsTo.iterOverflow hc hover).exec_eq hr⟩⟩
  · have h5 := RunsTo.dither (s := s.beforeDither) s.iterOperand hfit
    exact ⟨_, r, t, g, s.iterOperand, h1, hres1, h2, hres2, h3, hres3, h4, rfl, h5.exec_eq hr,
      .inl ⟨_, _, hr, rfl, (RunsTo.setduty _ (h5.configured hc)).exec_eq hr,
        (RunsTo.iter hc hfit).exec_eq hr⟩⟩

/-- Settles O34: below the full cap the sum fits, and the path of `ITER` that fits never halts. -/
theorem iterIsTotalBelowFullCap : Obligations.IterIsTotalBelowFullCap := by
  intro s hr hc hcap
  have hfit := iterOperand_fits hcap
  refine ⟨_, (RunsTo.iter hc hfit).exec_eq hr, hr, rfl, nextPhase_toNat s.phase, ?duty, rfl, rfl⟩
  case duty =>
    rw [← duty_of_fits _ _ hfit]
    exact invert_toNat _

/-- Settles O37, by induction on the number of iterations. -/
theorem loopNeverFaultsBelowFullCap : Obligations.LoopNeverFaultsBelowFullCap := by
  intro n
  induction n with
  | zero =>
    rintro s rest ⟨hc, hr, htracked⟩ - hin
    exact ⟨goodRun_zero hr, s, rfl, ⟨hc, hr, htracked⟩, (Nat.mod_eq_of_lt s.phase.isLt).symm, rfl, rfl, hin⟩
  | succ n ih =>
    intro s rest hs hcap hin
    obtain ⟨u, hstep, hu, hucap, huphase, huconversions, hutcr, huin⟩ :=
      exists_step_of_iter hs hcap hin
    obtain ⟨hgood, t, hrun, ht, htphase, htconversions, httcr, htin⟩ :=
      ih u rest hu (hucap ▸ hcap) huin
    obtain ⟨-, hr, -⟩ := hs
    refine ⟨goodRun_succ_of_step hr hstep hgood, t, (run_succ_of_step hstep n).trans hrun, ht,
      ?phase, by omega, httcr.trans hutcr, htin⟩
    case phase =>
      rw [htphase, huphase, nextPhase_toNat]
      omega

end Sys2Proof.Machine
end

section
/-! When a command faults and what the fault leaves: the conditions `raises` and `wordRaises` of R220, matched with
the paths of the operations. -/

namespace Sys2Proof.Machine

/-- What a fault of cause `c` leaves of the state `s` in which the command began (R221). `TRACKED` is not among it:
`ITER` has written it when its ditherer faults (R192). -/
structure FaultLeaves (c : Cause) (s t : State) : Prop where
  status : t.status = statusWord c.code true s.configured
  phase : t.phase = s.phase
  duty : t.duty = s.duty
  tcr : t.tcr = s.tcr
  irqLock : t.irqLock = false
  res : t.res = none

namespace FaultLeaves

variable {c : Cause} {s t u : State}

theorem halted (h : FaultLeaves c s t) : t.halted = true := by
  rw [State.halted, h.status, statusHalted_statusWord]

theorem cause (h : FaultLeaves c s t) : t.cause = c.code := by
  rw [State.cause, h.status, statusCause_statusWord]

/-- R221: a fault raised before any register but `TRACKED` is written. -/
theorem raise (h : u.regs = { s.regs with tracked := u.tracked }) :
    FaultLeaves c s (u.raise c) := by
  obtain ⟨-, hphase, hduty, htcr, hstatus⟩ := Regs.mk.inj h
  refine ⟨?status, hphase, hduty, htcr, rfl, rfl⟩
  case status => rw [raise_status, State.configured, hstatus]; rfl

end FaultLeaves

/-- A running block takes one path of an operation. -/
theorem RunsTo.unique {i : Instr} {s t t' : State} (h : RunsTo i s t) (h' : RunsTo i s t') : t = t' :=
  h.perform_eq.symm.trans h'.perform_eq

/-- R220, checks 3 to 5: each listed condition leads to its fault. -/
theorem exists_runsTo_fault {i : Instr} {c : Cause} {s : State} (h : raises i c s) :
    ∃ t, RunsTo i s t ∧ FaultLeaves c s t := by
  cases i with
  | init =>
    obtain ⟨rfl, hc⟩ | ⟨rfl, hc, ha⟩ := h
    · exact ⟨_, .reinit hc, .raise rfl⟩
    · exact ⟨_, .acqFail hc ha, .raise rfl⟩
  | measure | setduty =>
    obtain ⟨rfl, hc⟩ := h
    exact ⟨_, .notConfigured _ rfl hc, .raise rfl⟩
  | dither v =>
    obtain ⟨rfl, hover⟩ := h
    exact ⟨_, .ditherOverflow v ((overflows_iff v s.phase).mp hover), .raise rfl⟩
  | rdreg i3 =>
    obtain ⟨rfl, hi⟩ := h
    exact ⟨_, .rdregUnimplemented i3 (regRead_of_large s i3 hi), .raise rfl⟩
  | iter =>
    obtain ⟨rfl, hc⟩ | ⟨rfl, hc, hover⟩ := h
    · exact ⟨_, .notConfigured _ rfl hc, .raise rfl⟩
    · exact ⟨_, .iterOverflow hc ((overflows_iff s.iterOperand s.phase).mp hover), .raise rfl⟩
  | hyst | gamma | scale => exact h.elim

/-- R220: the listed conditions leave no fault out. -/
theorem exists_raises_or_runsTo_unhalted (i : Instr) (s : State) :
    (∃ c, raises i c s) ∨ ∃ t, RunsTo i s t ∧ t.halted = s.halted := by
  have hconf : s.configured = false ∨ s.configured = true := by cases s.configured <;> simp
  cases i with
  | init =>
    rcases hconf with hc | hc
    · cases ha : s.acqNext
      · exact .inl ⟨.acqFail, .inr ⟨rfl, hc, ha⟩⟩
      · exact .inr ⟨_, .init hc ha, by simp⟩
    · exact .inl ⟨.reinit, .inl ⟨rfl, hc⟩⟩
  | measure =>
    rcases hconf with hc | hc
    · exact .inl ⟨.notConfigured, rfl, hc⟩
    · exact .inr ⟨_, .measure hc, rfl⟩
  | hyst raw => exact .inr ⟨_, .hyst raw, rfl⟩
  | gamma v => exact .inr ⟨_, .gamma v, rfl⟩
  | scale v => exact .inr ⟨_, .scale v, rfl⟩
  | dither v =>
    rcases Nat.lt_or_ge 255 (ditherSum v s.phase).toNat with hover | hfit
    · exact .inl ⟨.dutyOverflow, rfl, (overflows_iff v s.phase).mpr hover⟩
    · exact .inr ⟨_, .dither v hfit, rfl⟩
  | setduty d =>
    rcases hconf with hc | hc
    · exact .inl ⟨.notConfigured, rfl, hc⟩
    · exact .inr ⟨_, .setduty d hc, rfl⟩
  | rdreg i3 =>
    rcases Nat.lt_or_ge 4 i3.toNat with hlarge | hle
    · exact .inl ⟨.illegalCmd, rfl, hlarge⟩
    · obtain ⟨r, hread, -⟩ := exists_regRead_of_le s hle
      exact .inr ⟨_, .rdreg i3 r hread, rfl⟩
  | iter =>
    rcases hconf with hc | hc
    · exact .inl ⟨.notConfigured, .inl ⟨rfl, hc⟩⟩
    · rcases Nat.lt_or_ge 255 (ditherSum s.iterOperand s.phase).toNat with hover | hfit
      · exact .inl ⟨.dutyOverflow, .inr ⟨rfl, hc, (overflows_iff s.iterOperand s.phase).mpr hover⟩⟩
      · exact .inr ⟨_, .iter hc hfit, rfl⟩

/-- The operation of a running block that halts it has taken a listed fault. -/
theorem RunsTo.exists_fault {i : Instr} {s t : State} (h : RunsTo i s t) (hr : s.halted = false)
    (ht : t.halted = true) : ∃ c, raises i c s ∧ FaultLeaves c s t := by
  obtain ⟨c, hc⟩ | ⟨u, hu, huhalted⟩ := exists_raises_or_runsTo_unhalted i s
  · obtain ⟨u, hu, hleaves⟩ := exists_runsTo_fault hc
    exact ⟨c, hc, h.unique hu ▸ hleaves⟩
  · rw [h.unique hu, huhalted, hr] at ht
    cases ht

/-- An operation that halts a running block has run, into a listed fault. -/
theorem exec_exists_fault {i : Instr} {s t : State} (hr : s.halted = false) (h : exec i s = .next t)
    (ht : t.halted = true) : RunsTo i s t ∧ ∃ c, raises i c s ∧ FaultLeaves c s t := by
  obtain ⟨hhalted, -⟩ | ⟨-, hrun⟩ := exec_next h
  · rw [hr] at hhalted
    cases hhalted
  · exact ⟨hrun, hrun.exists_fault hr ht⟩

/-- R216: an illegal word has its fault as its only sub-step. -/
theorem execWord_of_illegal {w : CmdWord} {s : State} (hw : decode w = none) (hr : s.halted = false) :
    execWord w s = .next (s.afterFault .illegalCmd) := by
  simp only [execWord, hw]
  exact operate_of_running illegalSteps s hr

theorem wordRaises_of_decode {w : CmdWord} {i : Instr} (hw : decode w = some i) (c : Cause) (s : State) :
    wordRaises w c s ↔ raises i c s := by
  simp only [wordRaises, hw]

theorem wordRaises_of_illegal {w : CmdWord} (hw : decode w = none) (c : Cause) (s : State) :
    wordRaises w c s ↔ c = .illegalCmd := by
  simp only [wordRaises, hw]

/-- R220, checks 2 to 5: each listed condition of a word leads to its fault. -/
theorem execWord_of_wordRaises {w : CmdWord} {c : Cause} {s : State} (hr : s.halted = false)
    (h : wordRaises w c s) : ∃ t, execWord w s = .next t ∧ FaultLeaves c s t := by
  cases hw : decode w with
  | none =>
    obtain rfl := (wordRaises_of_illegal hw c s).mp h
    exact ⟨_, execWord_of_illegal hw hr, .raise (u := s.quiet) rfl⟩
  | some i =>
    obtain ⟨t, hrun, hleaves⟩ := exists_runsTo_fault ((wordRaises_of_decode hw c s).mp h)
    exact ⟨t, (execWord_of_decode hw s).trans (hrun.exec_eq hr), hleaves⟩

/-- A word that halts a running block meets a listed condition. -/
theorem exists_wordRaises_of_halted {w : CmdWord} {s t : State} (hr : s.halted = false)
    (h : execWord w s = .next t) (ht : t.halted = true) : ∃ c, wordRaises w c s := by
  cases hw : decode w with
  | none => exact ⟨.illegalCmd, (wordRaises_of_illegal hw _ s).mpr rfl⟩
  | some i =>
    rw [execWord_of_decode hw] at h
    obtain ⟨-, c, hc, -⟩ := exec_exists_fault hr h ht
    exact ⟨c, (wordRaises_of_decode hw c s).mpr hc⟩

/-- The conditions look at nothing still to come at the block's inputs. -/
theorem wordRaises_setInputs (w : CmdWord) (c : Cause) (s : State) (rest : List Input) :
    wordRaises w c (s.setInputs rest) ↔ wordRaises w c s := Iff.rfl

section
variable {s t : State} {w : CmdWord} {rest : List Input}

/-- A presented word that meets a listed condition takes that fault. -/
theorem step_fault_of_wordRaises (hr : s.halted = false) (hin : s.inputs = .cmd w :: rest)
    (h : step s = .next t) {c : Cause} (hc : wordRaises w c s) : FaultLeaves c (s.setInputs rest) t := by
  rw [step_of_cons s _ rest hin] at h
  obtain ⟨u, hu, hleaves⟩ :=
    execWord_of_wordRaises (s := s.setInputs rest) hr ((wordRaises_setInputs w c s rest).mpr hc)
  obtain rfl := Host.Outcome.next.inj (hu.symm.trans h)
  exact hleaves

/-- A presented word that halts a running block meets a listed condition. -/
theorem step_exists_wordRaises (hr : s.halted = false) (hin : s.inputs = .cmd w :: rest)
    (h : step s = .next t) (ht : t.halted = true) : ∃ c, wordRaises w c s := by
  rw [step_of_cons s _ rest hin] at h
  obtain ⟨c, hc⟩ := exists_wordRaises_of_halted (s := s.setInputs rest) hr h ht
  exact ⟨c, (wordRaises_setInputs w c s rest).mp hc⟩

end

end Sys2Proof.Machine
end

section
/-! The reset request as the only way out of the halt. -/

namespace Sys2Proof.Machine

/-- R240: a presented reset request answers reset values, whatever it abandons. -/
theorem exists_step_of_rst {s : State} {during : Option Abandoned} {d : Duty} {o : BitVec 6}
    {rest : List Input} (hin : s.inputs = .rst during d o :: rest) :
    ∃ u : State, step s = .next (u.resetTo d o) := by
  obtain ⟨u, hu, -⟩ := resetRequest_eq during d o (s.setInputs rest)
  exact ⟨u, (step_of_cons s _ rest hin).trans hu⟩

/-- R43: the reset values of the five registers. -/
theorem resetTo_regs (s : State) (d : Duty) (o : BitVec 6) :
    (s.resetTo d o).regs = ⟨0#10, 0#2, d, tcrWord o false false, 0#5⟩ := rfl

/-- R224: a step from Halted keeps `STATUS`, or its input is a reset request, which is the way to the reset values. -/
theorem step_status_of_halted {s t : State} (hh : s.halted = true) (h : step s = .next t) :
    t.status = s.status ∨
      ∃ a d o, s.inputs.head? = some (.rst a d o) ∧
        t.regs = ⟨0#10, 0#2, d, tcrWord o false false, 0#5⟩ := by
  obtain ⟨-, rfl⟩ | ⟨i, rest, hin, hi⟩ := step_next h
  · exact .inl rfl
  · cases i with
    | cmd w =>
      obtain rfl := Host.Outcome.next.inj ((step_of_cmd_of_halted hh hin).symm.trans h)
      exact .inl rfl
    | rst during d o =>
      obtain ⟨u, hu⟩ := exists_step_of_rst hin
      obtain rfl := Host.Outcome.next.inj (hu.symm.trans h)
      exact .inr ⟨during, d, o, by rw [hin, List.head?_cons], resetTo_regs u d o⟩
    | hostTimerBits o =>
      obtain rfl := Host.Outcome.next.inj hi
      exact .inl rfl
    | hostIntEnable on =>
      obtain rfl := Host.Outcome.next.inj hi
      exact .inl rfl

theorem halted_of_status {s t : State} (h : t.status = s.status) (hh : s.halted = true) :
    t.halted = true :=
  (congrArg statusHalted h).trans hh

end Sys2Proof.Machine
end

section
/-! The obligations of spec/60_exceptions.md. -/

namespace Sys2Proof.Machine

/-- Settles O41: the halted check, the listed conditions in both directions, and the reset request. -/
theorem faultChecksInFixedOrder : Obligations.FaultChecksInFixedOrder := by
  refine ⟨fun s w rest hh hin => ⟨_, step_of_cmd_of_halted hh hin, rfl⟩, ?running, ?reset⟩
  case running =>
    intro s w rest hr hin
    obtain ⟨t, h⟩ := step_answers s
    refine ⟨t, h, fun c hc => ?_, step_exists_wordRaises hr hin h⟩
    have hleaves := step_fault_of_wordRaises hr hin h hc
    exact ⟨hleaves.halted, hleaves.cause, hleaves.res⟩
  case reset =>
    intro s during d o rest hin
    obtain ⟨u, hu⟩ := exists_step_of_rst hin
    exact ⟨_, hu, resetTo_halted u d o, resetTo_configured u d o⟩

/-- Settles O42: a block that an operation or a word has halted took a listed fault, which recorded its code. -/
theorem causesHaveTheirCodes : Obligations.CausesHaveTheirCodes := by
  refine ⟨⟨rfl, rfl, rfl, rfl, rfl⟩, ?operation, ?word⟩
  case operation =>
    intro s t i hr h ht
    obtain ⟨-, c, hc, hleaves⟩ := exec_exists_fault hr h ht
    exact ⟨c, hc, hleaves.cause⟩
  case word =>
    intro s t w rest hr hin h ht
    obtain ⟨c, hc⟩ := step_exists_wordRaises hr hin h ht
    exact ⟨c, hc, (step_fault_of_wordRaises hr hin h hc).cause⟩

/-- Settles O43: what the fault leaves; of the two operations that write `TRACKED`, `HYST` raises none. -/
theorem faultLeavesTheRegisters : Obligations.FaultLeavesTheRegisters := by
  intro s t i hr h ht
  obtain ⟨hrun, c, hc, hleaves⟩ := exec_exists_fault hr h ht
  refine ⟨⟨c, hc, hleaves.status⟩, hleaves.phase, hleaves.duty, hleaves.tcr, hleaves.irqLock,
    hleaves.res, fun hi => ?tracked⟩
  case tracked =>
    obtain hkept | rfl | ⟨raw, rfl⟩ := hrun.tracked
    · exact hkept
    · exact absurd rfl hi
    · exact hc.elim

/-- Settles O44: a step that keeps `STATUS` keeps the halt. -/
theorem onlyResetLeavesHalted : Obligations.OnlyResetLeavesHalted := by
  intro s t hh h
  exact (step_status_of_halted hh h).imp_left fun hstatus => ⟨halted_of_status hstatus hh, hstatus⟩

/-- Settles O26: the two paths of `INIT` that fault. -/
theorem initFaultsBeforeAnyWrite : Obligations.InitFaultsBeforeAnyWrite :=
  ⟨fun _ hr hc => (RunsTo.reinit hc).exec_eq hr, fun _ hr hc ha => (RunsTo.acqFail hc ha).exec_eq hr⟩

/-- Settles O38: the presented word is taken off the inputs, then it faults. -/
theorem illegalWordFaults : Obligations.IllegalWordFaults := by
  intro s w rest hr hin hw
  rw [step_of_cons s _ rest hin]
  exact execWord_of_illegal (s := s.setInputs rest) hw hr

/-- Settles O39: a word is taken off and ignored, and every other input but a reset request keeps `STATUS`. -/
theorem haltedBlockIsInert : Obligations.HaltedBlockIsInert := by
  refine ⟨fun s w rest hh hin => ⟨_, step_of_cmd_of_halted hh hin, rfl, rfl⟩, ?keeps⟩
  case keeps =>
    intro s hh hrst
    obtain ⟨t, h⟩ := step_answers s
    obtain hstatus | ⟨a, d, o, hhead, -⟩ := step_status_of_halted hh h
    · exact ⟨t, h, halted_of_status hstatus hh, hstatus⟩
    · exact absurd hhead (hrst a d o)

end Sys2Proof.Machine
end

section
/-! The block in the middle of the operation that a reset request abandons, and the start-up after the request. -/

namespace Sys2Proof.Machine

/-- R261: every operation answers a next state. -/
theorem exec_answers (i : Instr) (s : State) : ∃ t, exec i s = .next t := ⟨_, exec_eq_operate i s⟩

/-- R222: a halted block has no operation in progress. -/
theorem partWay_of_halted (a : Abandoned) {s : State} (hh : s.halted = true) : s.partWay a = s.quiet :=
  carryOut_of_halted _ s hh

/-- R240: on a running block the first sub-steps of the operation are complete. -/
theorem partWay_of_running {w : CmdWord} {i : Instr} (hw : decode w = some i) (n : Nat) {s : State}
    (hr : s.halted = false) : s.partWay ⟨w, n⟩ = s.quiet.perform ((subSteps i s.quiet).take n) := by
  rw [State.partWay, carryOut_of_running _ s hr, wordSteps, hw]

/-- What only the first sub-step writes is as it was where no sub-step is complete, and otherwise as that sub-step
left it, however many are. -/
theorem perform_take_of_later_keep {α : Type} (field : State → α) (first : State → State)
    {later : SubSteps} (hkeep : ∀ f ∈ later, ∀ t, field (f t) = field t) (n : Nat) (s : State) :
    field (s.perform ((first :: later).take n)) = if n = 0 then field s else field (first s) := by
  cases n with
  | zero => rfl
  | succ n =>
    rw [List.take_succ_cons, perform_cons, if_neg n.succ_ne_zero]
    exact perform_keeps (fun t => field t = field (first s)) _ _ rfl
      fun f hf t ht => (hkeep f (List.mem_of_mem_take hf) t).trans ht

/-- R161 and R162: a successful `INIT` begins with the sample of `ACQ_OK`, and samples no more. -/
theorem exists_sampleAcq_first {s : State} (hc : s.configured = false) (ha : s.acqNext = true) :
    ∃ later, initSteps s = State.sampleAcq :: later ∧
      ∀ f ∈ later, ∀ t, (f t).acqSamples = t.acqSamples :=
  ⟨_, initSteps_of_acqOk s hc ha, by simp [channelSteps, switchSteps]⟩

/-- R101 and R190: on a Configured driver `MEASURE` and `ITER` begin with their one conversion, and no sub-step
after it converts or shows a moment. -/
theorem exists_convert_first {i : Instr} {s : State} (hc : s.configured = true)
    (hi : i = .measure ∨ i = .iter) :
    ∃ later, subSteps i s = State.convert :: later ∧
      (∀ f ∈ later, ∀ t, (f t).conversions = t.conversions) ∧
      (∀ f ∈ later, ∀ t, (f t).adcIn = t.adcIn) ∧ ∀ f ∈ later, ∀ t, (f t).trace = t.trace := by
  obtain rfl | rfl := hi
  · exact ⟨_, needConfigured_of_configured _ s hc, by simp⟩
  · have hsteps : subSteps .iter s = iterSteps s := needConfigured_of_configured _ s hc
    rw [hsteps, iterSteps_eq]
    rcases Nat.lt_or_ge 255 (ditherSum s.iterOperand s.phase).toNat with hover | hfit
    · rw [ditherStage_of_overflow _ _ _ hover]
      exact ⟨_, rfl, by simp [State.track]⟩
    · rw [ditherStage_of_fits _ _ _ hfit]
      exact ⟨_, rfl, by simp [State.track, State.program]⟩

/-- R240 for `INIT`: `ACQ_OK` is sampled once or not at all. -/
theorem partWay_init_acqSamples {s : State} (hr : s.halted = false) (hc : s.configured = false)
    (ha : s.acqNext = true) (n : Nat) :
    (s.partWay ⟨encode .init, n⟩).acqSamples = s.acqSamples + min n 1 := by
  obtain ⟨later, hsteps, hkeep⟩ := exists_sampleAcq_first (s := s.quiet) hc ha
  rw [partWay_of_running (decode_encode rfl) n hr, subSteps, hsteps,
    perform_take_of_later_keep State.acqSamples State.sampleAcq hkeep]
  cases n <;> simp

/-- R163 and R240 for `INIT`: nothing is shown before sub-step 1, and each of sub-steps 1 and 2 shows its write. -/
theorem partWay_init_trace {s : State} (hr : s.halted = false) (hc : s.configured = false)
    (ha : s.acqNext = true) (n : Nat) :
    (n ≤ 1 → (s.partWay ⟨encode .init, n⟩).trace = []) ∧
    (n = 2 → (s.partWay ⟨encode .init, n⟩).trace = [s.setPwmEn.moment]) ∧
    (n = 3 → (s.partWay ⟨encode .init, n⟩).trace = [s.setPwmEn.moment, s.darkChannel.moment]) := by
  rw [partWay_of_running (decode_encode rfl) n hr, subSteps, initSteps_of_acqOk s.quiet hc ha]
  refine ⟨fun hn => ?_, ?_, ?_⟩
  · interval_cases n <;> rfl
  · rintro rfl
    rfl
  · rintro rfl
    rfl

/-- R101 and R240 for `MEASURE` and `ITER`: one conversion is triggered or none, and nothing is shown. -/
theorem partWay_conversion {w : CmdWord} {i : Instr} {s : State} (hw : decode w = some i)
    (hi : i = .measure ∨ i = .iter) (hr : s.halted = false) (hc : s.configured = true) (n : Nat) :
    (s.partWay ⟨w, n⟩).conversions = s.conversions + min n 1 ∧
    (s.partWay ⟨w, n⟩).adcIn = s.adcIn.drop (min n 1) ∧ (s.partWay ⟨w, n⟩).trace = [] := by
  obtain ⟨later, hsteps, hconversions, hadcIn, htrace⟩ := exists_convert_first (s := s.quiet) hc hi
  rw [partWay_of_running hw n hr, hsteps,
    perform_take_of_later_keep State.conversions State.convert hconversions,
    perform_take_of_later_keep State.adcIn State.convert hadcIn,
    perform_take_of_later_keep State.trace State.convert htrace]
  cases n <;> simp

/-- R240: a reset request between two operations. -/
theorem step_of_rst_between {s : State} {d : Duty} {o : BitVec 6} {rest : List Input}
    (hin : s.inputs = .rst none d o :: rest) :
    step s = .next ((s.setInputs rest).quiet.resetTo d o) :=
  step_of_cons s _ rest hin

/-- R240: a reset request inside an operation finds the block part way through it. -/
theorem step_of_rst_during {s : State} {a : Abandoned} {d : Duty} {o : BitVec 6} {rest : List Input}
    (hin : s.inputs = .rst (some a) d o :: rest) :
    step s = .next (((s.setInputs rest).partWay a).resetTo d o) :=
  step_of_cons s _ rest hin

/-- R222 and R240: on a halted block every reset request is one between two operations. -/
theorem step_of_rst_idle {s : State} {during : Option Abandoned} {d : Duty} {o : BitVec 6}
    {rest : List Input} (hin : s.inputs = .rst during d o :: rest)
    (hidle : during = none ∨ s.halted = true) :
    step s = .next ((s.setInputs rest).quiet.resetTo d o) := by
  cases during with
  | none => exact step_of_rst_between hin
  | some a =>
    have hh : (s.setInputs rest).halted = true := hidle.resolve_left (by simp)
    rw [step_of_rst_during hin, partWay_of_halted a hh]

/-- R37 and R38: a reset request keeps what is not the block's. -/
theorem exists_step_of_rst_sameSurroundings {s : State} {during : Option Abandoned} {d : Duty}
    {o : BitVec 6} {rest : List Input} (hin : s.inputs = .rst during d o :: rest) :
    ∃ u : State, step s = .next (u.resetTo d o) ∧ (s.setInputs rest).sameSurroundings u := by
  obtain ⟨u, hu, hsame, -⟩ := resetRequest_eq during d o (s.setInputs rest)
  exact ⟨u, (step_of_cons s _ rest hin).trans hu, hsame⟩

/-- R249: the state in which the steady state begins meets the launch predicate. -/
theorem State.steadyStart.launched {s : State} {o : BitVec 6} (h : s.steadyStart o) : s.launched := by
  obtain ⟨htracked, -, -, -, hstatus⟩ := h
  simp [State.launched, State.configured, State.halted, htracked, hstatus]

/-- R249: where `INIT` succeeds on a block at its reset values, the steady state begins. -/
theorem configure_resetTo_steadyStart (u : State) (d : Duty) (o : BitVec 6) :
    State.steadyStart o (u.resetTo d o).quiet.sampleAcq.configureChannel.setConfigured := by
  simp [State.steadyStart]

/-- R249: a step that has reset the block, then `INIT` with `ACQ_OK` true. -/
theorem run_two_of_rst_init {s u : State} {d : Duty} {o : BitVec 6} {rest : List Input}
    (hstep : step s = .next (u.resetTo d o)) (hin : u.inputs = .cmd (encode .init) :: rest)
    (ha : (u.resetTo d o).acqNext = true) :
    ∃ t, Host.Core.run core 2 s = .next t ∧ t.steadyStart o ∧ t.launched ∧ t.inputs = rest := by
  have hinit := step_of_runsTo (s := u.resetTo d o) (resetTo_halted u d o) rfl hin
    (.init (resetTo_configured u d o) ha)
  have hsteady := configure_resetTo_steadyStart (u.setInputs rest) d o
  refine ⟨_, ?_, hsteady, hsteady.launched, ?_⟩
  · rw [run_succ_of_step hstep, run_succ_of_step hinit]
    rfl
  · simp

end Sys2Proof.Machine
end

section
/-! The obligations of spec/70_reset_and_hazards.md. -/

namespace Sys2Proof.Machine

/-- Settles O51: an operation performs its sub-steps, and a step handles the next input or is idle. -/
theorem stepAlwaysAnswers : Obligations.StepAlwaysAnswers := ⟨fun s i => exec_answers i s, step_answers⟩

/-- Settles O53: the reset values, and beside them what the complete sub-steps of the abandoned operation showed
and drew. -/
theorem resetRestoresEveryRegister : Obligations.ResetRestoresEveryRegister := by
  refine ⟨?values, fun s during d o rest hin hidle => step_of_rst_idle hin hidle, ?init, ?conversion⟩
  case values =>
    intro s during d o rest hin
    obtain ⟨u, hu, hcap, hen, hrest⟩ := exists_step_of_rst_sameSurroundings hin
    exact ⟨_, hu, resetTo_regs u d o, rfl, rfl, hrest, hcap, hen⟩
  case init =>
    intro s n d o rest hr hc ha hin
    obtain ⟨hnone, hone, htwo⟩ := partWay_init_trace (s := s.setInputs rest) hr hc ha n
    exact ⟨_, s.setPwmEn.moment, s.darkChannel.moment, step_of_rst_during hin, rfl, rfl, hnone, hone, htwo,
      partWay_init_acqSamples (s := s.setInputs rest) hr hc ha n⟩
  case conversion =>
    intro s w n d o rest hr hc hw hin
    have hword : ∃ i, decode w = some i ∧ (i = .measure ∨ i = .iter) := by
      obtain rfl | rfl := hw
      · exact ⟨.measure, decode_encode (i := .measure) rfl, .inl rfl⟩
      · exact ⟨.iter, decode_encode (i := .iter) rfl, .inr rfl⟩
    obtain ⟨i, hdec, hi⟩ := hword
    exact ⟨_, step_of_rst_during hin, partWay_conversion (s := s.setInputs rest) hdec hi hr hc n⟩

/-- Settles O55: both clauses are a reset followed by `INIT`. -/
theorem startUpReachesTheSteadyState : Obligations.StartUpReachesTheSteadyState := by
  constructor
  · intro s d o rest hin ha
    exact run_two_of_rst_init (step_of_rst_between hin) rfl ha
  · intro s r a d o rest hin hstep ha
    have hreset := step_of_rst_during hin
    obtain rfl := Host.Outcome.next.inj (hreset.symm.trans hstep)
    obtain ⟨-, -, hinputs⟩ := partWay_sameSurroundings a (s.setInputs (.cmd (encode .init) :: rest))
    exact run_two_of_rst_init hreset hinputs ha

end Sys2Proof.Machine
end

section
/-! The mapper never raises a value, and the ditherer adds nothing to 0. -/

namespace Sys2Proof.Machine

/-- R124 and R127: neither gamma nor the cap raises a value, so the ditherer of `ITER` gets at most the tracked
value. -/
theorem iterOperand_le_hyst (s : State) :
    s.iterOperand.toNat ≤ (hyst s.adcNext s.tracked).toNat :=
  (scale_le s.percentCap _).trans (gamma_le _)

theorem iterOperand_eq_zero {s : State} (h : hyst s.adcNext s.tracked = 0#10) :
    s.iterOperand = 0#10 := by
  have hle := iterOperand_le_hyst s
  rw [h] at hle
  exact BitVec.eq_of_toNat_eq (Nat.le_zero.mp hle)

/-- R140: the row of remainder 0 adds nothing in any phase. -/
theorem ditherSum_zero (p : Phase) : ditherSum 0#10 p = 0#9 := by
  revert p; decide

end Sys2Proof.Machine
end

section
/-! The obligations about single vectors of spec/95_test_vectors.md. -/

namespace Sys2Proof.Machine

/-- Settles O1: the nine legal words are the encodings of their operations, and the six others lie outside the
legal numbers. -/
theorem listedWordsDecode : Obligations.ListedWordsDecode := by
  refine ⟨decode_encode (i := .init) rfl, decode_encode (i := .measure) rfl,
    decode_encode (i := .hyst 105#10) rfl, decode_encode (i := .gamma 512#10) rfl,
    decode_encode (i := .scale 1023#10) rfl, decode_encode (i := .dither 818#10) rfl,
    decode_encode (i := .setduty 205#8) rfl, decode_encode (i := .rdreg 2#3) rfl,
    decode_encode (i := .iter) rfl, ?illegal⟩
  case illegal => simp [decode_eq_none_iff, mem_legalNumbers]

/-- Settles O36: the tracker holds at 0, so the ditherer gets 0 and its sum is 0, whose inversion is 255. -/
theorem potentiometerAtZeroKeepsTheLampOff : Obligations.PotentiometerAtZeroKeepsTheLampOff := by
  intro s hr hc htracked hadc
  have hhold : hyst s.adcNext s.tracked = 0#10 := by
    rw [hyst_of_settled (.inl (htracked.trans hadc.symm)), htracked]
  have hsum : ditherSum s.iterOperand s.phase = 0#9 := by
    rw [iterOperand_eq_zero hhold, ditherSum_zero]
  have hiter := RunsTo.iter hc (by rw [hsum]; decide)
  rw [hsum] at hiter
  exact ⟨_, hiter.exec_eq hr, rfl, rfl, hhold⟩

end Sys2Proof.Machine
end
